-- ==== Sys2Proof/Word.lean ====
section
/-! DEFINITION. The widths the spec treats as bits (R9): bytes, 32-bit arguments, and the handles of R21 and R22,
which the block never interprets. -/

namespace Sys2Proof

/-- `u8` of R9: a byte, numbered 7 (most significant) to 0. -/
abbrev Byte := BitVec 8

/-- `u32` of R9: a command argument. -/
abbrev Arg := BitVec 32

/-- An opaque resource handle (R21, R22): the block compares none and never reads its bits (DESIGN CHOICE,
log entry 21: safe). -/
abbrev Handle := Nat

/-- The six bytes `f[0]` to `f[5]` of a command frame, in the order they are sent (R70). -/
structure Frame where
  b0 : Byte
  b1 : Byte
  b2 : Byte
  b3 : Byte
  b4 : Byte
  b5 : Byte
  deriving DecidableEq, Repr

end Sys2Proof
end

