-- ==== Sys2Proof/Config.lean ====
section
/-! DEFINITION. What an implementation fixes (the parameters of R7) and the free values: the bytes a card sends
beyond the listed ones, and what an element reads as that nothing has written. -/

namespace Sys2Proof

/-- The parameters of R7, each under its own name there. They are fixed for the life of a session (R38). -/
structure Params where
  idxReset : Byte
  idxIfCond : Byte
  idxAppCmd : Byte
  idxAppOpCond : Byte
  idxReadOcr : Byte
  checkArg : Arg
  hcsArg : Arg
  maskIllegal : Byte
  maskOcrReady : Byte
  maskOcrCcs : Byte
  dummyCrc : Byte
  fill : Byte
  nIdleHigh : Nat
  nIdleLow : Nat
  tokenRetries : Nat
  busyRetries : Nat
  negRetries : Nat
  ocrRetries : Nat
  /-- `HANDSHAKE_CLOCK`, an opaque value that is only passed to `configure`. -/
  handshakeClock : Nat
  deriving DecidableEq, Repr

/-- R7's column "default" where it has a value. For the parameters R7 leaves OPEN: the test configuration TC of
95_test_vectors.md section 0 (DESIGN CHOICE, log entry 1: unsafe; no statement rests on one of these values).
TC's clock is the unvalued symbol HC: 0 stands for it. -/
def Params.default : Params where
  idxReset := 0
  idxIfCond := 8
  idxAppCmd := 55
  idxAppOpCond := 41
  idxReadOcr := 58
  checkArg := 0x000001AA
  hcsArg := 0x40000000
  maskIllegal := 0x04
  maskOcrReady := 0x80
  maskOcrCcs := 0x40
  dummyCrc := 0xFF
  fill := 0xFF
  nIdleHigh := 10
  nIdleLow := 2
  tokenRetries := 8
  busyRetries := 4
  negRetries := 3
  ocrRetries := 2
  handshakeClock := 0

/-- The byte received by exchange number `n` when the environment's script says nothing of it: a free input, any of
the 256 values (R51, I1). Log entry 3. -/
opaque Config.freeByte : Nat → Byte

/-- What response byte `r[k]` reads as while it is `UNWRITTEN`: a free value (R30, R35, I9). Log entry 4. -/
opaque Config.unwrittenByte : Nat → Byte

/-- What a flag of the session record reads as inside the block while it is `UNWRITTEN`: a free value (R26, R35).
`is_v2` is numbered 0 and `timed_out` 1. Log entry 4. -/
opaque Config.unwrittenFlag : Nat → Bool

/-- What a retry counter reads as while it is `UNWRITTEN`: a free value (R29, R35). Counters are numbered 0 to 3 in
R29's order. Log entry 4. -/
opaque Config.unwrittenCount : Nat → Nat

/-- What the frame buffer reads as while it is `UNWRITTEN`: a free value (R31, R35). Log entry 4. -/
opaque Config.unwrittenFrameByte : Nat → Byte

end Sys2Proof
end

