-- ==== Sys2Proof/Syntax.lean ====
section
/-! DEFINITION. The instructions: the command frames of R79 and the generic frame of R81, one constructor for each
row of spec/opcode_table.json, and the response shapes of R74. -/

namespace Sys2Proof

/-- The four response shapes of R74. -/
inductive Shape where
  /-- 1-byte status -/
  | s1
  /-- 1-byte status with busy-drain -/
  | s1b
  /-- 2-byte status -/
  | s2
  /-- 5-byte status -/
  | s5
  deriving DecidableEq, Repr

/-- The commands. The checksum byte is no operand: the framer chooses it from `first_cmd_pending` (R73), so a frame's
last byte is not part of the instruction it stands for (log entry 6). -/
inductive Instr where
  /-- `CMD_RESET` (R156): argument zero, shape S1. -/
  | cmdReset
  /-- `CMD_IF_COND` (R157): argument `CHECK_ARG`, shape S5. -/
  | cmdIfCond
  /-- `CMD_APP` (R161): argument zero, shape S1. -/
  | cmdApp
  /-- `ACMD_OP_COND` (R162), shape S5. The table's row has the argument as a field; the sequencer passes the one of
  R82. -/
  | acmdOpCond (arg : Arg)
  /-- `CMD_READ_OCR` (R166): argument zero, shape S5. -/
  | cmdReadOcr
  /-- `CMD<n>` (R81, R100): any other frame. `idx` is the framer's u8 input, of which it keeps bits 5 to 0 (R71); the
  shape is the selector its caller passes (R74). -/
  | cmd (idx : Byte) (arg : Arg)
  deriving DecidableEq, Repr

end Sys2Proof
end

