-- ==== Sys2Proof/WellFormed.lean ====
section
/-! DEFINITION. Which configurations have a meaning (R7, R8), and which instructions are the reading of their own
frame: several rows of the table can match one frame, and the first row in the table's order names it. -/

namespace Sys2Proof

/-- The width constraint "6-bit index" of R7. -/
def isIndex (i : Byte) : Bool := i < 64

/-- The constraint "one bit set" of R7, for a byte. -/
def isMaskByte (m : Byte) : Bool := (List.range 8).any fun k => m == 1#8 <<< k

/-- The constraint "exactly one bit set" of R7, for the 32-bit `HCS_ARG`. -/
def isMaskArg (m : Arg) : Bool := (List.range 32).any fun k => m == 1#32 <<< k

/-- Every constraint of R7. A configuration that violates one is refused (R8). The indices need not differ: R7 does
not ask it. -/
def Params.valid (p : Params) : Bool :=
  [isIndex p.idxReset, isIndex p.idxIfCond, isIndex p.idxAppCmd, isIndex p.idxAppOpCond, isIndex p.idxReadOcr,
    isMaskArg p.hcsArg,
    isMaskByte p.maskIllegal, p.maskIllegal.getLsbD 7 == false, p.maskIllegal != 0x01,
    isMaskByte p.maskOcrReady,
    isMaskByte p.maskOcrCcs, p.maskOcrCcs != p.maskOcrReady,
    p.dummyCrc != 0x95,
    decide (1 ≤ p.tokenRetries), decide (1 ≤ p.busyRetries), decide (1 ≤ p.negRetries),
    decide (1 ≤ p.ocrRetries)].all id

/-- The frame fields of `CMD_RESET` (R79). -/
def isReset (p : Params) (idx : Byte) (arg : Arg) : Bool := idx == p.idxReset && arg == 0

/-- The frame fields of `CMD_IF_COND` (R79). -/
def isIfCond (p : Params) (idx : Byte) (arg : Arg) : Bool := idx == p.idxIfCond && arg == p.checkArg

/-- The frame fields of `CMD_APP` (R79). -/
def isApp (p : Params) (idx : Byte) (arg : Arg) : Bool := idx == p.idxAppCmd && arg == 0

/-- The frame fields of `ACMD_OP_COND`: the table's row fixes the index only. -/
def isOpCond (p : Params) (idx : Byte) : Bool := idx == p.idxAppOpCond

/-- The frame fields of `CMD_READ_OCR` (R79). -/
def isReadOcr (p : Params) (idx : Byte) (arg : Arg) : Bool := idx == p.idxReadOcr && arg == 0

/-- An instruction is well formed under `p` when no earlier row of the table has its frame, and the generic frame's
index is in the contract range 0 to 63 (R100). With R7's default indices every named command is well formed. -/
def Instr.wf (p : Params) : Instr → Bool
  | .cmdReset => true
  | .cmdIfCond => !isReset p p.idxIfCond p.checkArg
  | .cmdApp => !isReset p p.idxAppCmd 0 && !isIfCond p p.idxAppCmd 0
  | .acmdOpCond arg =>
    !isReset p p.idxAppOpCond arg && !isIfCond p p.idxAppOpCond arg && !isApp p p.idxAppOpCond arg
  | .cmdReadOcr =>
    !isReset p p.idxReadOcr 0 && !isIfCond p p.idxReadOcr 0 && !isApp p p.idxReadOcr 0 && !isOpCond p p.idxReadOcr
  | .cmd idx arg =>
    isIndex idx && !isReset p idx arg && !isIfCond p idx arg && !isApp p idx arg && !isOpCond p idx &&
      !isReadOcr p idx arg

end Sys2Proof
end

