-- ==== Sys2Proof/Decode.lean ====
section
/-! DEFINITION. The frame codec (30_encoding.md, R100, R104): the block's frame encoder, its inverse, the reading of
six bytes as an instruction, and the encoder of an instruction. -/

namespace Sys2Proof

/-- `FRAME(idx, arg, first)` of R100 (R70 to R73), with `DUMMY_CRC` passed in. -/
def frame (dummyCrc idx : Byte) (arg : Arg) (first : Bool) : Frame where
  b0 := 0x40 ||| (idx &&& 0x3F)
  b1 := arg.extractLsb' 24 8
  b2 := arg.extractLsb' 16 8
  b3 := arg.extractLsb' 8 8
  b4 := arg.extractLsb' 0 8
  b5 := if first then 0x95 else dummyCrc

/-- What `DECODE_FRAME` answers (R104). -/
structure FrameFields where
  /-- no frame of the block can equal six bytes with `valid` false -/
  valid : Bool
  idx : Byte
  arg : Arg
  crc : Byte
  /-- meaningful only for frames the block produced -/
  first : Bool
  deriving DecidableEq, Repr

/-- `DECODE_FRAME` of R104. -/
def decodeFrame (f : Frame) : FrameFields where
  valid := f.b0.extractLsb' 6 2 == 0b01#2
  idx := f.b0 &&& 0x3F
  arg := f.b1 ++ f.b2 ++ f.b3 ++ f.b4
  crc := f.b5
  first := f.b5 == 0x95

/-- The row of the table that an index and an argument stand for; the first that matches, in the table's order, and
the generic frame where none does (DESIGN CHOICE, log entry 13). -/
def rowOf (p : Params) (idx : Byte) (arg : Arg) : Instr :=
  if isReset p idx arg then .cmdReset
  else if isIfCond p idx arg then .cmdIfCond
  else if isApp p idx arg then .cmdApp
  else if isOpCond p idx then .acmdOpCond arg
  else if isReadOcr p idx arg then .cmdReadOcr
  else .cmd idx arg

/-- Why bytes are no instruction. -/
inductive DecodeReject where
  /-- a command frame is exactly six bytes (R70) -/
  | wrongLength
  /-- bits 7 and 6 of `f[0]` are not `01` (R81, R104) -/
  | framingBits
  deriving DecidableEq, Repr

/-- The instruction a frame stands for under `p`. -/
def decodeInstr (p : Params) (f : Frame) : Except DecodeReject Instr :=
  if (decodeFrame f).valid then .ok (rowOf p (decodeFrame f).idx (decodeFrame f).arg) else .error .framingBits

/-- The decoder: total on any bytes, refusing by name. -/
def decode (p : Params) : List Byte → Except DecodeReject Instr
  | [b0, b1, b2, b3, b4, b5] => decodeInstr p ⟨b0, b1, b2, b3, b4, b5⟩
  | _ => .error .wrongLength

/-- The bytes of a frame in the order they are sent (R70). -/
def Frame.bytes (f : Frame) : List Byte := [f.b0, f.b1, f.b2, f.b3, f.b4, f.b5]

/-- The frame whose 48 bits are `w`, numbered as R70 and the opcode table number them: bit 47 is bit 7 of `f[0]`. -/
def frameOfWord (w : Nat) : Frame where
  b0 := BitVec.ofNat 8 (w >>> 40)
  b1 := BitVec.ofNat 8 (w >>> 32)
  b2 := BitVec.ofNat 8 (w >>> 24)
  b3 := BitVec.ofNat 8 (w >>> 16)
  b4 := BitVec.ofNat 8 (w >>> 8)
  b5 := BitVec.ofNat 8 w

/-- The table's word of `nbits` bits as a frame: its bits from `nbits` up are zero. -/
def tableFrame (nbits w : Nat) : Frame := frameOfWord (w % 2 ^ nbits)

/-- The instruction the decoder reads from a word of the opcode table, under the indices the table is written with. -/
def decodeTableWord (nbits w : Nat) : Option Instr :=
  match decode Params.default (tableFrame nbits w).bytes with
  | .ok i => some i
  | .error _ => none

/-- The command index of an instruction (R79). -/
def Instr.index (p : Params) : Instr → Byte
  | .cmdReset => p.idxReset
  | .cmdIfCond => p.idxIfCond
  | .cmdApp => p.idxAppCmd
  | .acmdOpCond _ => p.idxAppOpCond
  | .cmdReadOcr => p.idxReadOcr
  | .cmd idx _ => idx

/-- The argument of an instruction (R79). -/
def Instr.argument (p : Params) : Instr → Arg
  | .cmdReset => 0
  | .cmdIfCond => p.checkArg
  | .cmdApp => 0
  | .acmdOpCond arg => arg
  | .cmdReadOcr => 0
  | .cmd _ arg => arg

/-- The encoder: the frame of an instruction, as the session's first frame or as a later one (R73). -/
def encode (p : Params) (first : Bool) (i : Instr) : Frame :=
  frame p.dummyCrc (i.index p) (i.argument p) first

end Sys2Proof
end

