-- ==== Sys2Proof/Machine/State.lean ====
section
/-! DEFINITION. The state: the session record (R21 to R26), the sequencer's control state (R27 to R33), the shadows of
the collaborators' state (R34), and the model's own fields: the position of the next event, the configuration, what
the environment and the caller do, and the trace. Construction (R35) is the reset. -/

namespace Sys2Proof.Machine

/-- `phase` of R27. -/
inductive Phase where
  | constructed
  | reset
  | probe
  | negotiate
  | readOcr
  | ready
  | faulted
  deriving DecidableEq, Repr

/-- `outcome` of R32; `none` before the first run ends. -/
inductive RunOutcome where
  | none
  | success
  | timedOut
  | faulted
  deriving DecidableEq, Repr

/-- The cause codes of R221, in the order of its table. Model-only bookkeeping (R33). -/
inductive Cause where
  | tTokenReset
  | tTokenProbe
  | tTokenApp
  | tTokenOpcond
  | tTokenOcr
  | tNegBudget
  | tOcrBudget
  /-- reserved for an S1B exchange; no command of the init sequence raises it -/
  | tBusy
  | fResetStatus
  | fProbeNotIdle
  | fNegStatus
  deriving DecidableEq, Repr

/-- `cs_level` of R34. -/
inductive CsLevel where
  | unknown
  | high
  | low
  deriving DecidableEq, Repr

/-- `clk_cfg` of R34: unknown, or the rate of the last `CFG_CLK`. -/
inductive ClkCfg where
  | unknown
  | rate (r : Nat)
  deriving DecidableEq, Repr

/-- The interface events of R10, each with the handle it acts on (R21, R22). -/
inductive Event where
  | cfgClk (bus : Handle) (rate : Nat)
  | cfgOut (line : Handle)
  | cs (line : Handle) (level : CsLevel)
  | xchg (bus : Handle) (sent received : Byte)
  | start
  | done (o : RunOutcome)
  deriving DecidableEq, Repr

/-- The result of a read (R120). The bytes of an `ok` result are the first `len(shape)` of the response buffer. -/
inductive ReadResult where
  | ok
  | timeoutToken
  | timeoutBusy
  deriving DecidableEq, Repr

/-- The position of the next event inside a command exchange (R127). -/
inductive ExchangePos where
  /-- next: send `f[k]` (R101) -/
  | frame (k : Fin 6)
  /-- next: the test at the head of the token search's loop (R121) -/
  | token
  /-- next: read `r[k + 1]` (R123, R124) -/
  | extra (k : Fin 4)
  /-- next: the test at the head of the busy drain's loop (R125) -/
  | drain
  /-- next: the terminating dummy byte (R125) -/
  | dummy (cleared : Bool)
  /-- next: release chip-select and return the result (R127) -/
  | release (res : ReadResult)
  deriving DecidableEq, Repr

/-- The places where the sequencer issues a command (42_sequencer.md). -/
inductive SeqPos where
  /-- the reset command (R156) -/
  | reset
  /-- the probe command (R157) -/
  | probe
  /-- the head of the negotiation loop (R160), then the command prefix (R161) -/
  | attempt
  /-- the operating-condition query (R162) -/
  | query
  /-- the head of the register-read loop, then the register read (R166) -/
  | register
  deriving DecidableEq, Repr

/-- The position of the next event of the block. R27 leaves its form to the model. -/
inductive Pos where
  /-- no run and no exchange in progress: the caller's next operation is served -/
  | rest
  | cfgClk
  | cfgOut
  /-- the `CS(HIGH)` of R153 -/
  | csFirst
  /-- `k` idle bytes have been sent with chip-select released (R154) -/
  | idleHigh (k : Nat)
  /-- `k` idle bytes have been sent with chip-select asserted (R154) -/
  | idleLow (k : Nat)
  /-- the sequencer is about to issue a command -/
  | command (c : SeqPos)
  /-- the frame in the frame buffer is about to be exchanged (log entry 7) -/
  | direct
  /-- in the exchange of `i` (R127) -/
  | exch (i : Instr) (x : ExchangePos)
  /-- the Faulted procedure before its `CS(HIGH)` (R169) -/
  | faultRelease (c : Cause)
  /-- the Faulted procedure before its dummy byte (R169) -/
  | faultDummy (c : Cause)
  /-- before `DONE` -/
  | done
  deriving DecidableEq, Repr

/-- The response buffer `r[0..4]` of R30; `none` is `UNWRITTEN`. -/
structure Response where
  r0 : Option Byte
  r1 : Option Byte
  r2 : Option Byte
  r3 : Option Byte
  r4 : Option Byte
  deriving DecidableEq, Repr

/-- What the environment does at the block's next collaborator call. The list of these is the environment's script:
each entry is taken by one call, except that a received byte waits for the next `XCHG`. Beyond the script's end every call
returns and every received byte is free (log entry 8). -/
inductive EnvAct where
  /-- the next collaborator call returns; where it is an `XCHG`, the byte it receives is free (R208, R209, R51) -/
  | returns
  /-- the next `XCHG` receives this byte (R51) -/
  | reply (b : Byte)
  /-- the next collaborator call never returns (R258) -/
  | hang
  /-- the caller calls the start operation while a run is in progress (R204) -/
  | reenter
  /-- another session uses the bus while this one owns it (R204) -/
  | otherSession
  deriving DecidableEq, Repr

/-- The four accessors of R206. -/
inductive Accessor where
  | isV2
  | isHighCapacity
  | timedOut
  | faulted
  deriving DecidableEq, Repr

/-- The operations of the caller (43_host_interface.md). -/
inductive HostOp where
  /-- `CONSTRUCT(cs, bus)` (R200) -/
  | construct (cs bus : Handle)
  /-- the source's "initialize" (R201 to R203) -/
  | callInit
  /-- an accessor (R206) -/
  | get (a : Accessor)
  deriving DecidableEq, Repr

/-- Why the machine is stuck. -/
inductive Fault where
  /-- A collaborator call never returned (R258, I6): the block hangs and the model keeps the hang. Raised by
  `State.perform`. Safe: the run stops, and no outcome is claimed for it. -/
  | collaboratorHang
  deriving DecidableEq, Repr

/-- Inputs the model gives no meaning. -/
inductive Refusal where
  /-- An instruction without a meaning. Raised by no arm: every row of the table is modelled. Safe. -/
  | notModelled (mnemonic : String)
  /-- The configuration violates a constraint of R7 (R8, I7). Raised by `step`. Safe. -/
  | badConfiguration
  /-- The start operation was called in phase READY (R203, I4). Raised by `hostStep`. Safe. -/
  | startInReady
  /-- The start operation was called while a run of the session is in progress (R204, I5). Raised by `State.perform`
  and `hostStep`. Safe. -/
  | reentrantStart
  /-- Another session used the bus while this one owned it (R204, I5). Raised by `State.perform`. Safe. -/
  | busNotExclusive
  /-- An accessor read a flag that is `UNWRITTEN`, which R206 refuses (also R26, conflict C3, I2, I3, vectors H1, H3).
  Raised by `accessorStep`. Safe. -/
  | unwrittenFlag (a : Accessor)
  /-- The frame to be exchanged cannot be one of the block's (R81, R104). Raised by `directInstr`'s caller, `step`.
  Safe. -/
  | invalidFrame (r : DecodeReject)
  deriving DecidableEq, Repr

/-- The state. In an `Option` field of the session record, of the counters and of the buffers, `none` is the spec's
own `UNWRITTEN` (R26, R35). -/
structure State where
  /-- `chip_select` (R21) -/
  chipSelect : Handle
  /-- `bus_handle` (R22) -/
  busHandle : Handle
  /-- `timed_out` (R23) -/
  timedOut : Option Bool
  /-- `faulted` (R24) -/
  faulted : Option Bool
  /-- `is_v2` (R25) -/
  isV2 : Option Bool
  /-- `is_high_capacity` (R26) -/
  isHighCapacity : Option Bool
  /-- `phase` (R27) -/
  phase : Phase
  /-- `first_cmd_pending` (R28) -/
  firstCmdPending : Bool
  /-- `neg_attempts` (R29) -/
  negAttempts : Option Nat
  /-- `ocr_attempts` (R29) -/
  ocrAttempts : Option Nat
  /-- `token_tries` (R29) -/
  tokenTries : Option Nat
  /-- `busy_tries` (R29) -/
  busyTries : Option Nat
  /-- `r[0..4]` (R30) -/
  r : Response
  /-- `f[0..5]` (R31); the framer always writes all six bytes -/
  f : Option Frame
  /-- `outcome` (R32) -/
  outcome : RunOutcome
  /-- `cause` (R33); `none` is `NONE` -/
  cause : Option Cause
  /-- `cs_level` (R34) -/
  csLevel : CsLevel
  /-- `clk_cfg` (R34) -/
  clkCfg : ClkCfg
  /-- the position in the pseudocode of the phase (R27) -/
  pos : Pos
  /-- the result of the last command exchange (R120, R127); `none` before the first -/
  result : Option ReadResult
  /-- the response-shape selector that a caller of the exchange passes for a frame of its own (R74, R127) -/
  shape : Shape
  /-- the parameters of R7 -/
  params : Params
  /-- the environment's script (R51, R204, R258) -/
  env : List EnvAct
  /-- how many `XCHG` have been issued: the argument of the free received byte (R51) -/
  rxCount : Nat
  /-- the caller's operations still to come -/
  host : List HostOp
  /-- what the accessors have returned, oldest first (R206) -/
  returned : List (Accessor × Bool)
  /-- the session's events, oldest first (R5, R10) -/
  trace : List Event
  deriving DecidableEq, Repr

/-- The state right after `CONSTRUCT(cs, bus)` under the configuration `p` (R35, R200). -/
def State.construct (p : Params) (cs bus : Handle) : State where
  chipSelect := cs
  busHandle := bus
  timedOut := none
  faulted := none
  isV2 := none
  isHighCapacity := none
  phase := .constructed
  firstCmdPending := true
  negAttempts := none
  ocrAttempts := none
  tokenTries := none
  busyTries := none
  r := ⟨none, none, none, none, none⟩
  f := none
  outcome := .none
  cause := none
  csLevel := .unknown
  clkCfg := .unknown
  pos := .rest
  result := none
  shape := .s1
  params := p
  env := []
  rxCount := 0
  host := []
  returned := []
  trace := []

/-- The machine right after reset, which is construction (R250). The configuration's open parameters, the two
handles and the model's own fields are the model's choice (DESIGN CHOICE, log entries 1, 2, 11 and 25; unsafe); its other
parameters are R7's defaults (PRESUMED, log entry 15; unsafe). No statement rests on one of these values. -/
def State.reset : State := State.construct Params.default 0 0

end Sys2Proof.Machine
end

