-- ==== Sys2Proof/Machine/Flags.lean ====
section
/-! DEFINITION. The decoded flags of the status byte and of the second response byte (R75 to R78), and the two classes
of failure (R220, R221). -/

namespace Sys2Proof.Machine

/-- `(b & m) != 0`. -/
def anyBit (b m : Byte) : Bool := (b &&& m) != 0

/-- The start-of-response token: bit 7 is clear (R75). -/
def isToken (b : Byte) : Bool := b.getLsbD 7 == false

/-- `st_idle` (R76); the mask is fixed by R6. -/
def stIdle (r0 : Byte) : Bool := anyBit r0 0x01

/-- `st_illegal` (R76). -/
def stIllegal (p : Params) (r0 : Byte) : Bool := anyBit r0 p.maskIllegal

/-- `st_idle_exact` (R76): `IDLE_STATUS` of R6. -/
def stIdleExact (r0 : Byte) : Bool := r0 == 0x01

/-- `st_zero` (R76). -/
def stZero (r0 : Byte) : Bool := r0 == 0x00

/-- `oc_ready` (R77). -/
def ocReady (p : Params) (r1 : Byte) : Bool := anyBit r1 p.maskOcrReady

/-- `oc_ccs` (R77). -/
def ocCcs (p : Params) (r1 : Byte) : Bool := anyBit r1 p.maskOcrCcs

/-- `ready(r)` of R78. -/
def readyResp (p : Params) (r0 r1 : Byte) : Bool := !stIdle r0 && ocReady p r1

/-- A drain byte that ends the busy drain: any non-zero value (R125). -/
def endsDrain (b : Byte) : Bool := b != 0x00

/-- Whether a cause is in the timeout class (R221); the others are protocol faults. -/
def Cause.isTimeout : Cause → Bool
  | .tTokenReset => true
  | .tTokenProbe => true
  | .tTokenApp => true
  | .tTokenOpcond => true
  | .tTokenOcr => true
  | .tNegBudget => true
  | .tOcrBudget => true
  | .tBusy => true
  | .fResetStatus => false
  | .fProbeNotIdle => false
  | .fNegStatus => false

/-- The numeric cause codes of R221. -/
def Cause.code : Cause → Byte
  | .tTokenReset => 0x01
  | .tTokenProbe => 0x02
  | .tTokenApp => 0x03
  | .tTokenOpcond => 0x04
  | .tTokenOcr => 0x05
  | .tNegBudget => 0x06
  | .tOcrBudget => 0x07
  | .tBusy => 0x08
  | .fResetStatus => 0x11
  | .fProbeNotIdle => 0x12
  | .fNegStatus => 0x13

end Sys2Proof.Machine
end

