-- ==== Sys2Proof/Machine/Operands.lean ====
section
/-! DEFINITION. The operands of a command exchange: the response shape of each instruction (R74, R79), the query's
argument (R82), and the reads of the buffers and counters. -/

namespace Sys2Proof.Machine

/-- `len(shape)` of R74: how many bytes of `r` a read stores. -/
def shapeLen : Shape → Nat
  | .s1 => 1
  | .s1b => 1
  | .s2 => 2
  | .s5 => 5

/-- The response shape an instruction is exchanged with (R79); the generic frame's is the caller's selector (R74). -/
def instrShape (selector : Shape) : Instr → Shape
  | .cmdReset => .s1
  | .cmdIfCond => .s5
  | .cmdApp => .s1
  | .acmdOpCond _ => .s5
  | .cmdReadOcr => .s5
  | .cmd _ _ => selector

/-- `is_v2` as the sequencer reads it (R162, R165). A run has written it (R152); `UNWRITTEN` reads as a free value. -/
def State.version (s : State) : Bool := s.isV2.getD (Config.unwrittenFlag 0)

/-- `timed_out` as the outcome mapping reads it (R169, R205). A run has written it (R152); `UNWRITTEN` reads as a free
value. -/
def State.hasTimedOut (s : State) : Bool := s.timedOut.getD (Config.unwrittenFlag 1)

/-- The query's argument, chosen when its frame is formed (R82, R162). -/
def opCondArg (s : State) : Arg := if s.version then s.params.hcsArg else 0

/-- `f[k]` (R31). -/
def Frame.byte (f : Frame) (k : Fin 6) : Byte :=
  match k with
  | 0 => f.b0
  | 1 => f.b1
  | 2 => f.b2
  | 3 => f.b3
  | 4 => f.b4
  | 5 => f.b5

/-- The byte `f[k]` that is sent next. The framer has written the buffer before (R101); an `UNWRITTEN` buffer reads as
free bytes. -/
def State.frameByte (s : State) (k : Fin 6) : Byte :=
  match s.f with
  | some f => Frame.byte f k
  | none => Config.unwrittenFrameByte k.val

/-- `r[k] <- b` (R30): the other bytes keep their contents. -/
def Response.put (r : Response) (k : Fin 5) (b : Byte) : Response :=
  match k with
  | 0 => { r with r0 := some b }
  | 1 => { r with r1 := some b }
  | 2 => { r with r2 := some b }
  | 3 => { r with r3 := some b }
  | 4 => { r with r4 := some b }

/-- The status byte `r[0]` (R55). Every decision follows an exchange that has stored it; `UNWRITTEN` reads as a free
byte. -/
def State.status (s : State) : Byte := s.r.r0.getD (Config.unwrittenByte 0)

/-- The second response byte `r[1]` (R55). -/
def State.second (s : State) : Byte := s.r.r1.getD (Config.unwrittenByte 1)

/-- `neg_attempts` as its loop reads it (R160). -/
def State.negCount (s : State) : Nat := s.negAttempts.getD (Config.unwrittenCount 0)

/-- `ocr_attempts` as its loop reads it (R166). -/
def State.ocrCount (s : State) : Nat := s.ocrAttempts.getD (Config.unwrittenCount 1)

/-- `token_tries` as its loop reads it (R121). -/
def State.tokenCount (s : State) : Nat := s.tokenTries.getD (Config.unwrittenCount 2)

/-- `busy_tries` as its loop reads it (R125). -/
def State.busyCount (s : State) : Nat := s.busyTries.getD (Config.unwrittenCount 3)

/-- The flag an accessor names (R206). -/
def State.flag (s : State) : Accessor → Option Bool
  | .isV2 => s.isV2
  | .isHighCapacity => s.isHighCapacity
  | .timedOut => s.timedOut
  | .faulted => s.faulted

end Sys2Proof.Machine
end

