-- ==== Sys2Proof/Machine/Ops.lean ====
section
/-! DEFINITION. The named operations: the collaborator calls (R208, R209), the framer and reader events of one command
exchange (R101, R121 to R127), entering the failure state and its procedure (R169, R226), and the end of a run (R168).
There is no return from the failure state (R227). One step issues one event (R5). -/

namespace Sys2Proof.Machine

/-- The block's collaborator calls all go through here: the call returns and the block's next state is `t`, or the
environment's script says otherwise. A call that never returns is a hang the model keeps (R258), and a breach of single
ownership has no meaning (R204). -/
def State.perform (s t : State) : Host.Outcome State Fault Refusal :=
  match s.env with
  | .hang :: _ => .fault .collaboratorHang
  | .reenter :: _ => .refused .reentrantStart
  | .otherSession :: _ => .refused .busNotExclusive
  | _ => .next t

/-- Whether the next collaborator call returns to a conforming run: the duties of R211 hold at it. -/
def State.envOk (s : State) : Bool :=
  match s.env with
  | .hang :: _ => false
  | .reenter :: _ => false
  | .otherSession :: _ => false
  | _ => true

/-- Append an event to the trace. -/
def State.log (s : State) (e : Event) : State := { s with trace := s.trace ++ [e] }

/-- Move to the position of the next event. -/
def State.goTo (s : State) (q : Pos) : State := { s with pos := q }

/-- The script after a collaborator call that receives no byte has returned: a received byte waits for its `XCHG`. -/
def State.envReturned (s : State) : List EnvAct :=
  match s.env with
  | .returns :: rest => rest
  | e => e

/-- `CFG_CLK(HANDSHAKE_CLOCK)` and its shadow (R153, R34). -/
def State.configureClock (s : State) : State :=
  { s with
    trace := s.trace ++ [.cfgClk s.busHandle s.params.handshakeClock]
    clkCfg := .rate s.params.handshakeClock
    env := s.envReturned }

/-- `CFG_OUT(cs)` on the session's line (R153, R209). -/
def State.configureLine (s : State) : State :=
  { s with trace := s.trace ++ [.cfgOut s.chipSelect], env := s.envReturned }

/-- `CS(level)` on the session's line, and its shadow (R209, R34). -/
def State.driveCs (s : State) (level : CsLevel) : State :=
  { s with trace := s.trace ++ [.cs s.chipSelect level], csLevel := level, env := s.envReturned }

/-- The byte the next `XCHG` receives: the scripted one, or a free byte (R51). -/
def State.rxByte (s : State) : Byte :=
  match s.env with
  | .reply b :: _ => b
  | _ => Config.freeByte s.rxCount

/-- The script after an `XCHG` has returned. -/
def State.envRest (s : State) : List EnvAct :=
  match s.env with
  | .reply _ :: rest => rest
  | .returns :: rest => rest
  | e => e

/-- `XCHG(out)`: one byte each way (R51, R52). The received byte is `s.rxByte`. -/
def State.exchangeByte (s : State) (out : Byte) : State :=
  { s with
    trace := s.trace ++ [.xchg s.busHandle out s.rxByte]
    env := s.envRest
    rxCount := s.rxCount + 1 }

/-! The failure state. -/

/-- `raise` of a cause (R10): entry to the Faulted procedure of R169, whose two events follow. Nothing is saved
(R226). -/
def State.raise (s : State) (c : Cause) : State := { s with phase := .faulted, pos := .faultRelease c }

/-- The Faulted procedure's `CS(HIGH)` (R169). -/
def State.faultReleased (s : State) (c : Cause) : State := (s.driveCs .high).goTo (.faultDummy c)

/-- The Faulted procedure's dummy byte, and then its flags, cause and outcome (R169, R32; decision
D19, log entry 20: unsafe). -/
def State.faultFinished (s : State) (c : Cause) : State :=
  { s.exchangeByte s.params.fill with
    faulted := some true
    timedOut := if c.isTimeout then some true else s.timedOut
    cause := some c
    outcome := if c.isTimeout || s.hasTimedOut then .timedOut else .faulted
    pos := .done }

/-- R168: the terminal success, up to its `DONE`. -/
def State.finish (s : State) : State := { s with phase := .ready, outcome := .success, pos := .done }

/-- `DONE(outcome)`: the start operation returns (R168, R169, R202). -/
def State.finishRun (s : State) : State := (s.log (.done s.outcome)).goTo .rest

/-! One command exchange. -/

/-- The exchange's `CS(LOW)` (R127), and the frame the framer forms for it (R101, R73). -/
def State.openExchange (s : State) (i : Instr) (idx : Byte) (arg : Arg) : State :=
  { s.driveCs .low with
    f := some (frame s.params.dummyCrc idx arg s.firstCmdPending)
    pos := .exch i (.frame 0) }

/-- One frame byte is sent and the received byte discarded; after the sixth, `first_cmd_pending` is cleared (R101,
R102) and the token search starts with its count at zero (R121). -/
def State.frameByteSent (s : State) (i : Instr) (k : Fin 6) : State :=
  if h : k.val + 1 < 6 then
    (s.exchangeByte (s.frameByte k)).goTo (.exch i (.frame ⟨k.val + 1, h⟩))
  else
    { s.exchangeByte (s.frameByte k) with
      firstCmdPending := false
      tokenTries := some 0
      pos := .exch i .token }

/-- Where a read goes on once the token is stored (R122 to R125). -/
def afterToken : Shape → ExchangePos
  | .s1 => .release .ok
  | .s1b => .drain
  | .s2 => .extra 0
  | .s5 => .extra 0

/-- One read of the token search (R121). A token is stored as `r[0]`; a busy drain that follows starts with its count
at zero (R125). -/
def State.tokenRead (s : State) (i : Instr) (shape : Shape) : State :=
  if isToken s.rxByte then
    { s.exchangeByte s.params.fill with
      tokenTries := some (s.tokenCount + 1)
      r := s.r.put 0 s.rxByte
      busyTries := if shape = .s1b then some 0 else s.busyTries
      pos := .exch i (afterToken shape) }
  else
    { s.exchangeByte s.params.fill with
      tokenTries := some (s.tokenCount + 1)
      pos := .exch i .token }

/-- Where a read goes on once `r[k + 1]` is stored (R123, R124). -/
def afterExtra (shape : Shape) (k : Fin 4) : ExchangePos :=
  if h : k.val + 1 < 4 then
    if k.val + 2 < shapeLen shape then .extra ⟨k.val + 1, h⟩ else .release .ok
  else .release .ok

/-- One byte after the token, stored whatever its value (R75, R123, R124). -/
def State.extraRead (s : State) (i : Instr) (shape : Shape) (k : Fin 4) : State :=
  { s.exchangeByte s.params.fill with
    r := s.r.put k.succ s.rxByte
    pos := .exch i (afterExtra shape k) }

/-- One read of the busy drain, discarded (R125). -/
def State.drainRead (s : State) (i : Instr) : State :=
  { s.exchangeByte s.params.fill with
    busyTries := some (s.busyCount + 1)
    pos := .exch i (if endsDrain s.rxByte then .dummy true else .drain) }

/-- The terminating dummy byte, on the cleared and on the timeout path (R125, decision D13, log entry 18: unsafe). -/
def State.dummySent (s : State) (i : Instr) (cleared : Bool) : State :=
  (s.exchangeByte s.params.fill).goTo (.exch i (.release (if cleared then .ok else .timeoutBusy)))

/-- The exchange's `CS(HIGH)`, on every path (R127, R128). -/
def State.closeExchange (s : State) (res : ReadResult) : State :=
  { s.driveCs .high with result := some res }

/-- The next event of `EXCHANGE(idx, arg, shape)` for the command `i` (R127): it opens the exchange where none is in
progress, goes on with the one in progress, and closes it. `close` is what the issuing rule does with the result, after
the release. -/
def exchangeEvent (i : Instr) (idx : Byte) (arg : Arg) (shape : Shape) (close : ReadResult → State → State)
    (s : State) : Host.Outcome State Fault Refusal :=
  match s.pos with
  | .exch _ (.frame k) => s.perform (s.frameByteSent i k)
  | .exch _ .token =>
    if s.tokenCount = s.params.tokenRetries then s.perform (close .timeoutToken (s.closeExchange .timeoutToken))
    else s.perform (s.tokenRead i shape)
  | .exch _ (.extra k) => s.perform (s.extraRead i shape k)
  | .exch _ .drain =>
    if s.busyCount = s.params.busyRetries then s.perform (s.dummySent i false)
    else s.perform (s.drainRead i)
  | .exch _ (.dummy cleared) => s.perform (s.dummySent i cleared)
  | .exch _ (.release res) => s.perform (close res (s.closeExchange res))
  | _ => s.perform (s.openExchange i idx arg)

end Sys2Proof.Machine
end

