-- ==== Sys2Proof/Machine/Generic.lean ====
section
/-! DEFINITION. The generic frame CMD<n> (R81, R100, R127): the exchange of any frame the framer can encode, in any of
the four shapes. The sequencer issues none; the result goes back to the caller of the exchange (R129). -/

namespace Sys2Proof.Machine

/-- The caller of the exchange interprets the result (R129); the block decides nothing. -/
def closeGeneric (_ : ReadResult) (s : State) : State := s.goTo .rest

/-- CMD<n>: `EXCHANGE(idx, arg, shape)` (R127) with the caller's shape selector. -/
def execCmd (idx : Byte) (arg : Arg) (s : State) : Host.Outcome State Fault Refusal :=
  exchangeEvent (.cmd idx arg) idx arg s.shape closeGeneric s

end Sys2Proof.Machine
end

