-- ==== Sys2Proof/Machine/Identify.lean ====
section
/-! DEFINITION. The commands of the reset and probe phases: CMD_RESET (R156) and CMD_IF_COND (R157 to R159). -/

namespace Sys2Proof.Machine

/-- What R156 does with the result of the reset exchange: only the exact idle status is accepted. -/
def closeReset (res : ReadResult) (s : State) : State :=
  match res with
  | .timeoutToken => s.raise .tTokenReset
  | .timeoutBusy => s.raise .tBusy
  | .ok =>
    if stIdleExact s.status then { s with phase := .probe, pos := .command .probe }
    else s.raise .fResetStatus

/-- CMD_RESET: `EXCHANGE(IDX_RESET, 0, S1)` and R156's test. -/
def execCmdReset (s : State) : Host.Outcome State Fault Refusal :=
  exchangeEvent .cmdReset s.params.idxReset 0 .s1 closeReset s

/-- What R158 and R159 do with the probe's result, and the start of the negotiation (R160). An illegal-command bit is
no fault, and nothing else of the response is tested (decision D31, log entry 19: unsafe). -/
def closeIfCond (res : ReadResult) (s : State) : State :=
  match res with
  | .timeoutToken => s.raise .tTokenProbe
  | .timeoutBusy => s.raise .tBusy
  | .ok =>
    if stIdle s.status then
      { s with
        isV2 := if stIllegal s.params s.status then s.isV2 else some true
        phase := .negotiate
        negAttempts := some 0
        pos := .command .attempt }
    else s.raise .fProbeNotIdle

/-- CMD_IF_COND: `EXCHANGE(IDX_IF_COND, CHECK_ARG, S5)` (R157) and the tests of R158 and R159. -/
def execCmdIfCond (s : State) : Host.Outcome State Fault Refusal :=
  exchangeEvent .cmdIfCond s.params.idxIfCond s.params.checkArg .s5 closeIfCond s

end Sys2Proof.Machine
end

