-- ==== Sys2Proof/Machine/Negotiate.lean ====
section
/-! DEFINITION. The commands of the negotiation and of the capacity register: CMD_APP (R161), ACMD_OP_COND (R162 to
R165) and CMD_READ_OCR (R166, R167). -/

namespace Sys2Proof.Machine

/-- What R161 does with the result of the command prefix: its status byte is not tested. -/
def closeApp (res : ReadResult) (s : State) : State :=
  match res with
  | .timeoutToken => s.raise .tTokenApp
  | .timeoutBusy => s.raise .tBusy
  | .ok => s.goTo (.command .query)

/-- CMD_APP: `EXCHANGE(IDX_APP_CMD, 0, S1)` (R161). -/
def execCmdApp (s : State) : Host.Outcome State Fault Refusal :=
  exchangeEvent .cmdApp s.params.idxAppCmd 0 .s1 closeApp s

/-- What follows the negotiation loop (R164, R165): a non-zero status faults; a v2 card's capacity register is read;
any other card is ready. -/
def afterNegotiation (s : State) : State :=
  if stZero s.status then
    if s.version then { s with phase := .readOcr, ocrAttempts := some 0, pos := .command .register }
    else s.finish
  else s.raise .fNegStatus

/-- What R162 to R165 do with the query's result: the loop's exit test, or another attempt. -/
def closeOpCond (res : ReadResult) (s : State) : State :=
  match res with
  | .timeoutToken => s.raise .tTokenOpcond
  | .timeoutBusy => s.raise .tBusy
  | .ok => if readyResp s.params s.status s.second then afterNegotiation s else s.goTo (.command .attempt)

/-- ACMD_OP_COND: `EXCHANGE(IDX_APP_OP_COND, arg, S5)` (R162) and the tests of R163 to R165. -/
def execAcmdOpCond (arg : Arg) (s : State) : Host.Outcome State Fault Refusal :=
  exchangeEvent (.acmdOpCond arg) s.params.idxAppOpCond arg .s5 closeOpCond s

/-- What R166 and R167 do with the register read's result; no status test but readiness. -/
def closeReadOcr (res : ReadResult) (s : State) : State :=
  match res with
  | .timeoutToken => s.raise .tTokenOcr
  | .timeoutBusy => s.raise .tBusy
  | .ok =>
    if readyResp s.params s.status s.second then
      State.finish { s with isHighCapacity := some (ocCcs s.params s.second) }
    else s.goTo (.command .register)

/-- CMD_READ_OCR: `EXCHANGE(IDX_READ_OCR, 0, S5)` (R166) and R167. -/
def execCmdReadOcr (s : State) : Host.Outcome State Fault Refusal :=
  exchangeEvent .cmdReadOcr s.params.idxReadOcr 0 .s5 closeReadOcr s

end Sys2Proof.Machine
end

