-- ==== Sys2Proof/Machine/Dispatch.lean ====
section
/-! DEFINITION. One arm per row of the opcode table. An instruction's meaning is the next event of its command
exchange and, with the event that closes the exchange, what the issuing rule does with the response. -/

namespace Sys2Proof.Machine

def exec (i : Instr) (s : State) : Host.Outcome State Fault Refusal :=
  match i with
  | .cmdReset => Sys2Proof.Machine.execCmdReset s
  | .cmdIfCond => Sys2Proof.Machine.execCmdIfCond s
  | .cmdApp => Sys2Proof.Machine.execCmdApp s
  | .acmdOpCond arg => Sys2Proof.Machine.execAcmdOpCond arg s
  | .cmdReadOcr => Sys2Proof.Machine.execCmdReadOcr s
  | .cmd idx arg => Sys2Proof.Machine.execCmd idx arg s

end Sys2Proof.Machine
end

