-- ==== Sys2Proof/Machine/Sequencer.lean ====
section
/-! DEFINITION. What the sequencer and the host interface do outside a command exchange: the caller's operations
(R200 to R206), the setup and power-up clocking (R153 to R155), the choice of the next command with the loop heads
(R156 to R166), and the Faulted procedure's and the run's last events (R168, R169). -/

namespace Sys2Proof.Machine

/-- `START` of a run in phase CONSTRUCTED, then R152's writes (the spec's decision D14, log entry 16: unsafe) and the
`phase <- RESET` of R153. -/
def State.startRun (s : State) (rest : List HostOp) : State :=
  { s with
    trace := s.trace ++ [.start]
    host := rest
    timedOut := some false
    faulted := some false
    isV2 := some false
    cause := none
    phase := .reset
    pos := .cfgClk }

/-- `START` on a faulted session: nothing is written and only `DONE` follows (R202). -/
def State.startFaulted (s : State) (rest : List HostOp) : State :=
  { s with trace := s.trace ++ [.start], host := rest, pos := .done }

/-- `CONSTRUCT(cs, bus)`: a fresh session (R200, R35). The configuration, the environment and the caller stay. -/
def State.newSession (s : State) (cs bus : Handle) (rest : List HostOp) : State :=
  { State.construct s.params cs bus with
    shape := s.shape
    env := s.env
    rxCount := s.rxCount
    host := rest
    returned := s.returned }

/-- The start operation at rest (R201 to R204). -/
def startStep (s : State) (rest : List HostOp) : Host.Outcome State Fault Refusal :=
  match s.phase with
  | .constructed => .next (s.startRun rest)
  | .faulted => .next (s.startFaulted rest)
  | .ready => .refused .startInReady
  | .reset => .refused .reentrantStart
  | .probe => .refused .reentrantStart
  | .negotiate => .refused .reentrantStart
  | .readOcr => .refused .reentrantStart

/-- An accessor at rest: it returns the flag's value and writes nothing; `UNWRITTEN` is refused (R206). -/
def accessorStep (s : State) (a : Accessor) (rest : List HostOp) : Host.Outcome State Fault Refusal :=
  match s.flag a with
  | some v => .next { s with host := rest, returned := s.returned ++ [(a, v)] }
  | none => .refused (.unwrittenFlag a)

/-- The caller's next operation. While the caller asks nothing, the block does nothing (log entry 5). -/
def hostStep (s : State) : Host.Outcome State Fault Refusal :=
  match s.host with
  | [] => .next s
  | .construct cs bus :: rest => .next (s.newSession cs bus rest)
  | .callInit :: rest => startStep s rest
  | .get a :: rest => accessorStep s a rest

/-- `k` idle bytes have been sent with chip-select released: send another, or assert chip-select (R154). -/
def idleHighStep (s : State) (k : Nat) : Host.Outcome State Fault Refusal :=
  if k < s.params.nIdleHigh then s.perform ((s.exchangeByte s.params.fill).goTo (.idleHigh (k + 1)))
  else s.perform ((s.driveCs .low).goTo (.idleLow 0))

/-- `k` idle bytes have been sent with chip-select asserted: send another (R154), or release chip-select before the
reset exchange (R155, decision D12, log entry 18: unsafe). -/
def idleLowStep (s : State) (k : Nat) : Host.Outcome State Fault Refusal :=
  if k < s.params.nIdleLow then s.perform ((s.exchangeByte s.params.fill).goTo (.idleLow (k + 1)))
  else s.perform ((s.driveCs .high).goTo (.command .reset))

/-- `CFG_CLK` (R153). -/
def cfgClkStep (s : State) : Host.Outcome State Fault Refusal := s.perform (s.configureClock.goTo .cfgOut)

/-- `CFG_OUT(cs)` (R153), in the order of decision D11 (log entry 18: unsafe). -/
def cfgOutStep (s : State) : Host.Outcome State Fault Refusal :=
  s.perform (s.configureLine.goTo .csFirst)

/-- The first `CS(HIGH)` (R153). -/
def csFirstStep (s : State) : Host.Outcome State Fault Refusal := s.perform ((s.driveCs .high).goTo (.idleHigh 0))

/-- What the sequencer does where it issues a command: it runs the command, from the state its loop head has written,
or it raises. -/
inductive Issue where
  | run (i : Instr) (t : State)
  | stop (c : Cause)

/-- The command of each place in the sequencer (R79), with the loop heads of R160 and R166: the budget is tested before
the attempt is counted (decision D9, log entry 17: unsafe). -/
def issue (c : SeqPos) (s : State) : Issue :=
  match c with
  | .reset => .run .cmdReset s
  | .probe => .run .cmdIfCond s
  | .attempt =>
    if s.negCount = s.params.negRetries then .stop .tNegBudget
    else .run .cmdApp { s with negAttempts := some (s.negCount + 1) }
  | .query => .run (.acmdOpCond (opCondArg s)) s
  | .register =>
    if s.ocrCount = s.params.ocrRetries then .stop .tOcrBudget
    else .run .cmdReadOcr { s with ocrAttempts := some (s.ocrCount + 1) }

/-- The Faulted procedure's first event (R169). -/
def faultReleaseStep (c : Cause) (s : State) : Host.Outcome State Fault Refusal := s.perform (s.faultReleased c)

/-- A loop head that raises: the Faulted procedure is entered and its first event issued. -/
def raiseStep (c : Cause) (s : State) : Host.Outcome State Fault Refusal := faultReleaseStep c (s.raise c)

/-- The Faulted procedure's second event and its writes (R169). -/
def faultDummyStep (c : Cause) (s : State) : Host.Outcome State Fault Refusal := s.perform (s.faultFinished c)

/-- `DONE(outcome)` (R168, R169, R202). -/
def doneStep (s : State) : Host.Outcome State Fault Refusal := .next s.finishRun

/-- The instruction that the frame in the frame buffer stands for. -/
def directInstr (s : State) : Except DecodeReject Instr :=
  match s.f with
  | some f => decode s.params f.bytes
  | none => .error .wrongLength

end Sys2Proof.Machine
end

