-- ==== Sys2Proof/Machine/Step.lean ====
section
/-! DEFINITION. One step of the block is one event (R5): the command in progress is executed, or the sequencer or the
host interface acts. A configuration that violates a constraint is refused (R8). -/

namespace Sys2Proof.Machine

/-- The step, under a valid configuration. -/
def stepValid (s : State) : Host.Outcome State Fault Refusal :=
  match s.pos with
  | .rest => hostStep s
  | .cfgClk => cfgClkStep s
  | .cfgOut => cfgOutStep s
  | .csFirst => csFirstStep s
  | .idleHigh k => idleHighStep s k
  | .idleLow k => idleLowStep s k
  | .command c =>
    match issue c s with
    | .run i t => exec i t
    | .stop cause => raiseStep cause s
  | .direct =>
    match directInstr s with
    | .ok i => exec i s
    | .error e => .refused (.invalidFrame e)
  | .exch i _ => exec i s
  | .faultRelease c => faultReleaseStep c s
  | .faultDummy c => faultDummyStep c s
  | .done => doneStep s

/-- One step of the machine. -/
def step (s : State) : Host.Outcome State Fault Refusal :=
  if s.params.valid then stepValid s else .refused .badConfiguration

/-- The table's word of `nbits` bits in the frame buffer, about to be exchanged (log entry 7). -/
def State.withFetchWord (s : State) (nbits w : Nat) : State :=
  { s with f := some (tableFrame nbits w), pos := .direct }

end Sys2Proof.Machine
end

