-- ==== Sys2Proof/Safety.lean ====
section
/-! DEFINITION. What the statements call a safe state of a session that only its own sequencer drives: the invariant
`State.Inv`, in parts, and the bound on the events a run has left (R171). A frame exchanged on its own account (position
`direct`, log entry 7) is outside the invariant; no step of the sequencer leads there. -/

namespace Sys2Proof.Machine

/-- The chip-select level at a position where the rules fix it (R37, R128, R154, R155, R254). -/
def posLevel : Pos → Option CsLevel
  | .exch _ _ => some .low
  | .idleLow _ => some .low
  | .idleHigh _ => some .high
  | .command _ => some .high
  | .faultRelease _ => some .high
  | .faultDummy _ => some .high
  | .done => some .high
  | .rest => none
  | .cfgClk => none
  | .cfgOut => none
  | .csFirst => none
  | .direct => none

/-- Chip-select discipline: the level each position asks for, and released at rest after a run (R37, R254). -/
def State.LineOk (s : State) : Prop :=
  (∀ l, posLevel s.pos = some l → s.csLevel = l) ∧
  (s.pos = .rest → s.phase = .ready ∨ s.phase = .faulted → s.csLevel = .high)

/-- The phase at a position that belongs to one phase (R27, R150). -/
def posPhase : Pos → Option Phase
  | .cfgClk => some .reset
  | .cfgOut => some .reset
  | .csFirst => some .reset
  | .idleHigh _ => some .reset
  | .idleLow _ => some .reset
  | .command .reset => some .reset
  | .command .probe => some .probe
  | .command .attempt => some .negotiate
  | .command .query => some .negotiate
  | .command .register => some .readOcr
  | .exch .cmdReset _ => some .reset
  | .exch .cmdIfCond _ => some .probe
  | .exch .cmdApp _ => some .negotiate
  | .exch (.acmdOpCond _) _ => some .negotiate
  | .exch .cmdReadOcr _ => some .readOcr
  | .exch (.cmd _ _) _ => none
  | .faultRelease _ => some .faulted
  | .faultDummy _ => some .faulted
  | .rest => none
  | .direct => none
  | .done => none

/-- Position and phase agree, and the session is driven by its sequencer alone. -/
def State.PhaseOk (s : State) : Prop :=
  (∀ q, posPhase s.pos = some q → s.phase = q) ∧
  (s.pos = .rest → s.phase = .constructed ∨ s.phase = .ready ∨ s.phase = .faulted) ∧
  (s.pos = .done → s.phase = .ready ∨ s.phase = .faulted) ∧
  s.pos ≠ .direct ∧
  (∀ idx arg x, s.pos ≠ .exch (.cmd idx arg) x)

/-- Whether the Faulted procedure has still to write its flags (R169). -/
def inFaultProcedure : Pos → Bool
  | .faultRelease _ => true
  | .faultDummy _ => true
  | _ => false

/-- The flags and the outcome in each phase (R23 to R26, R32, R33, R152, R167 to R169, R205). -/
def State.FlagsOk (s : State) : Prop :=
  match s.phase with
  | .constructed =>
    s.timedOut = none ∧ s.faulted = none ∧ s.isV2 = none ∧ s.isHighCapacity = none ∧ s.outcome = .none ∧ s.cause = none
  | .ready =>
    s.timedOut = some false ∧ s.faulted = some false ∧ s.outcome = .success ∧ s.cause = none ∧ s.isV2.isSome = true ∧
      (s.isHighCapacity.isSome = true ↔ s.isV2 = some true)
  | .faulted =>
    s.isHighCapacity = none ∧ s.isV2.isSome = true ∧
      if inFaultProcedure s.pos then
        s.timedOut = some false ∧ s.faulted = some false ∧ s.outcome = .none ∧ s.cause = none
      else
        s.faulted = some true ∧ (∃ c, s.cause = some c ∧ c ≠ .tBusy ∧ s.timedOut = some c.isTimeout) ∧
          s.outcome = if s.timedOut = some true then .timedOut else .faulted
  | _ =>
    s.timedOut = some false ∧ s.faulted = some false ∧ s.isV2.isSome = true ∧ s.isHighCapacity = none ∧
      s.outcome = .none ∧ s.cause = none

/-- `is_v2` in the phases before it can be set and in the phase that needs it, and the query's argument (R25, R82,
R165). -/
def State.VersionOk (s : State) : Prop :=
  (s.phase = .reset ∨ s.phase = .probe → s.isV2 = some false) ∧
  (s.phase = .readOcr → s.isV2 = some true) ∧
  (∀ arg x, s.pos = .exch (.acmdOpCond arg) x → arg = opCondArg s)

/-- No counter exceeds its budget, and a loop's counter is written while the loop runs (R29). -/
def State.CountersOk (s : State) : Prop :=
  (∀ n, s.negAttempts = some n → n ≤ s.params.negRetries) ∧
  (∀ n, s.ocrAttempts = some n → n ≤ s.params.ocrRetries) ∧
  (∀ n, s.tokenTries = some n → n ≤ s.params.tokenRetries) ∧
  (∀ n, s.busyTries = some n → n ≤ s.params.busyRetries) ∧
  (s.phase = .negotiate → s.negAttempts.isSome = true) ∧
  (s.phase = .readOcr → s.ocrAttempts.isSome = true) ∧
  (∀ i, s.pos = .exch i .token → s.tokenTries.isSome = true)

/-- Whether the session's first frame has still to be sent (R28, R156). -/
def State.beforeFirstFrame (s : State) : Bool :=
  match s.pos with
  | .rest => s.phase == .constructed
  | .cfgClk => true
  | .cfgOut => true
  | .csFirst => true
  | .idleHigh _ => true
  | .idleLow _ => true
  | .command .reset => true
  | .exch .cmdReset (.frame _) => true
  | _ => false

/-- The first frame of a session is the reset frame, and the frame buffer holds the frame being sent (R28, R31, R102,
R156). -/
def State.FrameOk (s : State) : Prop :=
  s.firstCmdPending = s.beforeFirstFrame ∧
  (∀ i k, s.pos = .exch i (.frame k) → s.f = some (encode s.params s.firstCmdPending i))

/-- A status byte has been stored, and it is a token (R55, R75). -/
def State.hasStatus (s : State) : Prop := ∃ b, s.r.r0 = some b ∧ isToken b = true

/-- Inside a read: the positions of the command's shape only, the status byte stored once the token is found, and
`r[1]` stored once it has been read. So no decision reads an `UNWRITTEN` byte. -/
def State.ReadOk (s : State) : Prop :=
  match s.pos with
  | .exch i (.extra k) =>
    s.hasStatus ∧ k.val + 1 < shapeLen (instrShape s.shape i) ∧ (1 ≤ k.val → s.r.r1.isSome = true)
  | .exch i (.release res) =>
    res = .ok ∧ s.hasStatus ∧ (1 < shapeLen (instrShape s.shape i) → s.r.r1.isSome = true)
  | .exch _ .drain => False
  | .exch _ (.dummy _) => False
  | .faultRelease c => c ≠ .tBusy
  | .faultDummy c => c ≠ .tBusy
  | _ => True

/-- The invariant of a session that its own sequencer drives. -/
def State.Inv (s : State) : Prop :=
  s.LineOk ∧ s.PhaseOk ∧ s.FlagsOk ∧ s.VersionOk ∧ s.CountersOk ∧ s.FrameOk ∧ s.ReadOk

/-- Whether an event is `CFG_CLK`. -/
def isCfgClk : Event → Bool
  | .cfgClk _ _ => true
  | _ => false

/-- Whether an event is `CFG_OUT`. -/
def isCfgOut : Event → Bool
  | .cfgOut _ => true
  | _ => false

/-- Whether an event acts on the session's own handles (R21, R22); the host's events act on none. -/
def onHandles (s : State) : Event → Bool
  | .cfgClk bus _ => bus == s.busHandle
  | .cfgOut line => line == s.chipSelect
  | .cs line _ => line == s.chipSelect
  | .xchg bus _ _ => bus == s.busHandle
  | .start => true
  | .done _ => true

/-- Whether an event is a byte exchange. -/
def isXchg : Event → Bool
  | .xchg _ _ _ => true
  | _ => false

/-- Whether an event is one of the host's (R10): `START` or `DONE`. -/
def isHostEvent : Event → Bool
  | .start => true
  | .done _ => true
  | _ => false

/-- The session has configured the clock and the line once since its run started, and not before (R173 (d)). -/
def State.SetupOnce (s : State) : Prop :=
  s.trace.countP isCfgClk = (if s.phase = .constructed ∨ s.pos = .cfgClk then 0 else 1) ∧
  s.trace.countP isCfgOut = (if s.phase = .constructed ∨ s.pos = .cfgClk ∨ s.pos = .cfgOut then 0 else 1)

/-- A run is in progress. -/
def State.running (s : State) : Prop := s.pos ≠ .rest

/-- The most events of a read that has found its token, without the release (R260). -/
def readTail (p : Params) : Shape → Nat
  | .s1 => 0
  | .s1b => p.busyRetries + 1
  | .s2 => 1
  | .s5 => 4

/-- The most events of one whole exchange (R171, R260): `8 + T` for S1, `12 + T` for S5. -/
def exchangeBound (p : Params) (sh : Shape) : Nat := 8 + p.tokenRetries + readTail p sh

/-- The most events one exchange has left at a position inside it. -/
def exchangeLeft (s : State) (sh : Shape) : ExchangePos → Nat
  | .frame k => (6 - k.val) + s.params.tokenRetries + readTail s.params sh + 1
  | .token => (s.params.tokenRetries - s.tokenCount) + readTail s.params sh + 1
  | .extra k => (shapeLen sh - (k.val + 1)) + 1
  | .drain => (s.params.busyRetries - s.busyCount) + 2
  | .dummy _ => 2
  | .release _ => 1

/-- The most events from the head of the register-read loop, with `n` attempts left, up to and with `DONE` (R171: the
loop, two events of the Faulted procedure, and `DONE`). -/
def registerLeft (p : Params) (n : Nat) : Nat := n * exchangeBound p .s5 + 3

/-- The most events from the head of the negotiation loop, with `n` attempts left. -/
def attemptLeft (p : Params) (n : Nat) : Nat :=
  n * (exchangeBound p .s1 + exchangeBound p .s5) + registerLeft p p.ocrRetries

/-- The most events from the place where a command is issued. -/
def issueLeft (s : State) : SeqPos → Nat
  | .register => registerLeft s.params (s.params.ocrRetries - s.ocrCount)
  | .attempt => attemptLeft s.params (s.params.negRetries - s.negCount)
  | .query => exchangeBound s.params .s5 + attemptLeft s.params (s.params.negRetries - s.negCount)
  | .probe => exchangeBound s.params .s5 + attemptLeft s.params s.params.negRetries
  | .reset => exchangeBound s.params .s1 + exchangeBound s.params .s5 + attemptLeft s.params s.params.negRetries

/-- The most events that follow the exchange of a command. -/
def afterExchangeLeft (s : State) : Instr → Nat
  | .cmdReset => issueLeft s .probe
  | .cmdIfCond => attemptLeft s.params s.params.negRetries
  | .cmdApp => issueLeft s .query
  | .acmdOpCond _ => issueLeft s .attempt
  | .cmdReadOcr => issueLeft s .register
  | .cmd _ _ => 0

/-- The most events a run has left, up to and with its `DONE` (R171). -/
def State.eventsLeft (s : State) : Nat :=
  match s.pos with
  | .rest => 0
  | .direct => 0
  | .done => 1
  | .faultDummy _ => 2
  | .faultRelease _ => 3
  | .exch i x => exchangeLeft s (instrShape s.shape i) x + afterExchangeLeft s i
  | .command c => issueLeft s c
  | .idleLow k => (s.params.nIdleLow - k) + 1 + issueLeft s .reset
  | .idleHigh k => (s.params.nIdleHigh - k) + 1 + (s.params.nIdleLow + 1) + issueLeft s .reset
  | .csFirst => 1 + (s.params.nIdleHigh + 1) + (s.params.nIdleLow + 1) + issueLeft s .reset
  | .cfgOut => 2 + (s.params.nIdleHigh + 1) + (s.params.nIdleLow + 1) + issueLeft s .reset
  | .cfgClk => 3 + (s.params.nIdleHigh + 1) + (s.params.nIdleLow + 1) + issueLeft s .reset

/-- R171's bound on the events of a run, between its `START` and its `DONE`. -/
def runBound (p : Params) : Nat :=
  (5 + p.nIdleHigh + p.nIdleLow) + ((8 + p.tokenRetries) + (12 + p.tokenRetries)) +
    p.negRetries * (20 + 2 * p.tokenRetries) + p.ocrRetries * (12 + p.tokenRetries) + 2

/-- Whether an entry of the environment's script is a received byte. -/
def isReply : EnvAct → Bool
  | .reply _ => true
  | _ => false

/-- Whether an entry of the environment's script keeps the duties of R211. -/
def keepsDuty : EnvAct → Bool
  | .returns => true
  | .reply _ => true
  | .hang => false
  | .reenter => false
  | .otherSession => false

/-- By its script the environment keeps its duties: every collaborator call returns and no duty of R211 is broken. -/
def State.conforming (s : State) : Bool := s.env.all keepsDuty

/-- The byte exchanges in which the block sends `FILL` and receives these bytes, in order (R126). -/
def fillReads (s : State) (bs : List Byte) : List Event := bs.map fun b => .xchg s.busHandle s.params.fill b

/-- The failure that a token timeout of each command raises (R156, R157, R161, R162, R166, R221). The generic frame's
timeout goes back to its caller (R127). -/
def tokenTimeoutCause : Instr → Option Cause
  | .cmdReset => some .tTokenReset
  | .cmdIfCond => some .tTokenProbe
  | .cmdApp => some .tTokenApp
  | .acmdOpCond _ => some .tTokenOpcond
  | .cmdReadOcr => some .tTokenOcr
  | .cmd _ _ => none

/-- The transitions between phases that R150's table allows, and staying in a phase. -/
def allowedTransition : Phase → Phase → Bool
  | .constructed, .reset => true
  | .reset, .probe => true
  | .reset, .faulted => true
  | .probe, .negotiate => true
  | .probe, .faulted => true
  | .negotiate, .readOcr => true
  | .negotiate, .ready => true
  | .negotiate, .faulted => true
  | .readOcr, .ready => true
  | .readOcr, .faulted => true
  | a, b => a == b

/-- `n` steps of the machine, stopping at the first fault or refusal. It is the host's `Core.run` of this machine
(Laws/Step.lean), written over the machine's own types. -/
def runSteps : Nat → State → Host.Outcome State Fault Refusal
  | 0, s => .next s
  | n + 1, s =>
    match step s with
    | .next t => runSteps n t
    | .fault e => .fault e
    | .refused r => .refused r

/-- Whether the caller's next operation is to construct a new session. -/
def State.constructsNext (s : State) : Bool :=
  match s.host with
  | .construct _ _ :: _ => true
  | _ => false

end Sys2Proof.Machine
end

