-- ==== Sys2Proof/Certificates/Slice0/Obligations.lean ====
section
/-! DEFINITION. The statements about the model, from the spec's numbered rules. "Derived" in a docstring marks a
statement that rests on a decision or an inference the spec marks as its own, or on a choice of the model's. -/

open Sys2Proof Sys2Proof.Machine

/-! ## Encoding -/

/-- R72, with R100's other bytes: the frame of every index and argument, byte by byte. -/
def Obligations.FramerEncodesEveryCommand : Prop :=
  ∀ (d idx : Byte) (arg : Arg) (first : Bool),
    (frame d idx arg first).b0.extractLsb' 6 2 = 0b01#2 ∧
    (frame d idx arg first).b0.extractLsb' 0 6 = idx.extractLsb' 0 6 ∧
    (frame d idx arg first).b1 = arg.extractLsb' 24 8 ∧
    (frame d idx arg first).b2 = arg.extractLsb' 16 8 ∧
    (frame d idx arg first).b3 = arg.extractLsb' 8 8 ∧
    (frame d idx arg first).b4 = arg.extractLsb' 0 8 ∧
    (frame d idx arg first).b1 ++ (frame d idx arg first).b2 ++ (frame d idx arg first).b3 ++
      (frame d idx arg first).b4 = arg

/-- Derived (R73 and R8 rest on decision D4): the checksum byte is 0x95 exactly in the first command's frame. -/
def Obligations.ChecksumMarksFirstCommand : Prop :=
  ∀ (d idx : Byte) (arg : Arg) (first : Bool), d ≠ 0x95 → ((frame d idx arg first).b5 = 0x95 ↔ first = true)

/-- Derived (R104 is the spec's inference): `DECODE_FRAME` inverts the framer, up to the index bits it drops. -/
def Obligations.DecodeFrameInvertsFramer : Prop :=
  ∀ (d idx : Byte) (arg : Arg) (first : Bool),
    (decodeFrame (frame d idx arg first)).valid = true ∧
    (decodeFrame (frame d idx arg first)).idx = idx &&& 0x3F ∧
    (idx < 64 → (decodeFrame (frame d idx arg first)).idx = idx) ∧
    (decodeFrame (frame d idx arg first)).arg = arg ∧
    (decodeFrame (frame d idx arg first)).crc = if first then 0x95 else d

/-- Derived (R81, R104): six bytes whose framing bits are not 01 are no instruction, and the framer forms no such frame.
-/
def Obligations.OtherFramingBitsAreNoCommand : Prop :=
  ∀ (f : Frame), f.b0.extractLsb' 6 2 ≠ 0b01#2 →
    (∀ p, decode p f.bytes = .error .framingBits) ∧ ∀ d idx arg first, frame d idx arg first ≠ f

/-- Derived (R70 to R73, R104; log entries 6 and 13): decoding the frame of any well-formed instruction gives the
instruction back, under every valid configuration and with either checksum. -/
def Obligations.DecodeEncodeRoundTrip : Prop :=
  ∀ (p : Params) (first : Bool) (i : Instr), p.valid = true → i.wf p = true →
    decode p (encode p first i).bytes = .ok i

/-- Derived (R81, R104; log entry 13): every frame with the framing bits 01 is read as a well-formed instruction, whose
own frame differs from it at most in the checksum byte. -/
def Obligations.EveryFrameIsItsInstruction : Prop :=
  ∀ (p : Params) (f : Frame) (first : Bool), p.valid = true → f.b0.extractLsb' 6 2 = 0b01#2 →
    ∃ i, decode p f.bytes = .ok i ∧ i.wf p = true ∧
      (encode p first i).b0 = f.b0 ∧ (encode p first i).b1 = f.b1 ∧ (encode p first i).b2 = f.b2 ∧
      (encode p first i).b3 = f.b3 ∧ (encode p first i).b4 = f.b4

/-- Derived (the opcode table, vectors F1, F3, F4, F5, F7, F8, F12, D3, D4): a word of each row of the opcode table, and
two generic frames of the spec's vectors, decode to their rows. The words are read under `Params.default`, whose command
indices and check argument are the spec's defaults from general knowledge (G1, G2), not the source's: PRESUMED, log
entry 15 (unsafe). That 0x400000000095 is `cmdReset`, although the row CMD<n> matches it too, is the model's choice of log
entry 13. -/
def Obligations.OpcodeTableWordsDecode : Prop :=
  decodeTableWord 48 0x400000000095 = some .cmdReset ∧
  decodeTableWord 48 0x48000001AAFF = some .cmdIfCond ∧
  decodeTableWord 48 0x7700000000FF = some .cmdApp ∧
  decodeTableWord 48 0x6940000000FF = some (.acmdOpCond 0x40000000) ∧
  decodeTableWord 48 0x7A00000000FF = some .cmdReadOcr ∧
  decodeTableWord 48 0x7FFFFFFFFFFF = some (.cmd 63 0xFFFFFFFF) ∧
  decodeTableWord 48 0x5100000200FF = some (.cmd 17 0x200) ∧
  decodeTableWord 48 0xC00000000095 = none ∧
  decodeTableWord 48 0x000000000095 = none

/-- R78: the readiness condition of both polling loops. -/
def Obligations.ReadinessCondition : Prop :=
  ∀ (p : Params) (r0 r1 : Byte), readyResp p r0 r1 = true ↔ (r0 &&& 0x01 = 0 ∧ r1 &&& p.maskOcrReady ≠ 0)

/-! ## What a step runs -/

/-- Derived (the place of such a frame is the model's choice, log entry 7): a step at a frame that decodes to an
instruction is that instruction's event, with nothing added. -/
def Obligations.StepRunsDecodedFrame : Prop :=
  ∀ (s : State) (f : Frame) (i : Instr), s.params.valid = true → s.pos = .direct → s.f = some f →
    decode s.params f.bytes = .ok i → step s = exec i s

/-- Derived (R127, R5): a step inside an exchange is an event of the command whose exchange it is. -/
def Obligations.StepContinuesCommand : Prop :=
  ∀ (s : State) (i : Instr) (x : ExchangePos), s.params.valid = true → s.pos = .exch i x → step s = exec i s

/-- Derived (R79, R160, R162, R166; decisions D7, D9): the command each place of the sequencer issues, and the loop
heads, which test the budget before they count the attempt. -/
def Obligations.SequencerIssuesItsCommands : Prop :=
  ∀ (s : State), s.params.valid = true →
    (s.pos = .command .reset → step s = exec .cmdReset s) ∧
    (s.pos = .command .probe → step s = exec .cmdIfCond s) ∧
    (∀ n, s.pos = .command .attempt → s.negAttempts = some n → n ≠ s.params.negRetries →
      step s = exec .cmdApp { s with negAttempts := some (n + 1) }) ∧
    (s.pos = .command .query → s.isV2 = some true → step s = exec (.acmdOpCond s.params.hcsArg) s) ∧
    (s.pos = .command .query → s.isV2 = some false → step s = exec (.acmdOpCond 0) s) ∧
    (∀ n, s.pos = .command .register → s.ocrAttempts = some n → n ≠ s.params.ocrRetries →
      step s = exec .cmdReadOcr { s with ocrAttempts := some (n + 1) })

/-- Derived (R160, R166, R221; decision D9): a loop head whose budget is spent enters the failure state with its own
cause, and issues no further command. -/
def Obligations.SpentBudgetRaises : Prop :=
  ∀ (s : State), s.params.valid = true → s.envOk = true →
    (s.pos = .command .attempt → s.negAttempts = some s.params.negRetries →
      ∃ t, step s = .next t ∧ t.phase = .faulted ∧ t.pos = .faultDummy .tNegBudget ∧ t.csLevel = .high ∧
        t.trace = s.trace ++ [.cs s.chipSelect .high]) ∧
    (s.pos = .command .register → s.ocrAttempts = some s.params.ocrRetries →
      ∃ t, step s = .next t ∧ t.phase = .faulted ∧ t.pos = .faultDummy .tOcrBudget ∧ t.csLevel = .high ∧
        t.trace = s.trace ++ [.cs s.chipSelect .high])

/-- Derived (R8 rests on decision D9 and conflict C8): a step is refused for its configuration exactly where a
constraint of R7 is violated. -/
def Obligations.BadConfigurationIsRefused : Prop :=
  ∀ (s : State), step s = .refused .badConfiguration ↔
    ¬(s.params.idxReset < 64 ∧ s.params.idxIfCond < 64 ∧ s.params.idxAppCmd < 64 ∧ s.params.idxAppOpCond < 64 ∧
      s.params.idxReadOcr < 64 ∧
      (∃ k, k < 32 ∧ s.params.hcsArg = 1#32 <<< k) ∧
      (∃ k, k < 8 ∧ s.params.maskIllegal = 1#8 <<< k) ∧ s.params.maskIllegal.getLsbD 7 = false ∧
      s.params.maskIllegal ≠ 0x01 ∧
      (∃ k, k < 8 ∧ s.params.maskOcrReady = 1#8 <<< k) ∧
      (∃ k, k < 8 ∧ s.params.maskOcrCcs = 1#8 <<< k) ∧ s.params.maskOcrCcs ≠ s.params.maskOcrReady ∧
      s.params.dummyCrc ≠ 0x95 ∧
      1 ≤ s.params.tokenRetries ∧ 1 ≤ s.params.busyRetries ∧ 1 ≤ s.params.negRetries ∧ 1 ≤ s.params.ocrRetries)

/-- Derived (R5 rests on decision D1): away from rest a step issues exactly one event; at rest it issues `START`, or
none (the model's choice, log entries 5 and 24), or it begins a new session's empty trace (log entry 12). -/
def Obligations.OneEventPerStep : Prop :=
  ∀ (s t : State), step s = .next t →
    (s.pos ≠ .rest → ∃ e, t.trace = s.trace ++ [e]) ∧
    (s.pos = .rest → t.trace = s.trace ∨ t.trace = s.trace ++ [.start] ∨ (s.constructsNext = true ∧ t.trace = []))

/-! ## The host interface -/

/-- Derived (R200; R35 rests on decisions D14 to D16): construction gives every element its construction value and
issues no event. -/
def Obligations.ConstructGivesFreshSession : Prop :=
  ∀ (s : State) (cs bus : Handle) (rest : List HostOp), s.params.valid = true → s.pos = .rest →
    s.host = .construct cs bus :: rest →
    ∃ t, step s = .next t ∧ t.chipSelect = cs ∧ t.busHandle = bus ∧ t.timedOut = none ∧ t.faulted = none ∧
      t.isV2 = none ∧ t.isHighCapacity = none ∧ t.phase = .constructed ∧ t.firstCmdPending = true ∧
      t.negAttempts = none ∧ t.ocrAttempts = none ∧ t.tokenTries = none ∧ t.busyTries = none ∧
      t.r = ⟨none, none, none, none, none⟩ ∧ t.f = none ∧ t.outcome = .none ∧ t.cause = none ∧
      t.csLevel = .unknown ∧ t.clkCfg = .unknown ∧ t.pos = .rest ∧ t.trace = [] ∧ t.params = s.params ∧
      t.host = rest ∧ t.env = s.env

/-- Derived (R152, R153 rest on decision D14; R201): the start operation on a constructed session. -/
def Obligations.StartBeginsRun : Prop :=
  ∀ (s : State) (rest : List HostOp), s.params.valid = true → s.pos = .rest → s.host = .callInit :: rest →
    s.phase = .constructed →
    step s = .next { s with
      trace := s.trace ++ [.start], host := rest, timedOut := some false, faulted := some false, isV2 := some false,
      cause := none, phase := .reset, pos := .cfgClk }

/-- Derived (R202 rests on decision D16): the start operation on a faulted session returns the stored outcome; its only
events are `START` and `DONE`, and nothing else changes. -/
def Obligations.StartOnFaultedSessionReturns : Prop :=
  ∀ (s : State) (rest : List HostOp), s.params.valid = true → s.pos = .rest → s.host = .callInit :: rest →
    s.phase = .faulted →
    runSteps 2 s = .next { s with trace := s.trace ++ [.start, .done s.outcome], host := rest }

/-- Derived (R203 rests on decision D16): at rest in READY the start operation is refused. At rest in a phase of a run,
where no run of a session comes, it is refused as re-entrant: that is the model's choice of log entry 24. The re-entrant
start inside a run (R204) is in `EnvironmentStopsAreKept`. -/
def Obligations.StartElsewhereIsRefused : Prop :=
  ∀ (s : State) (rest : List HostOp), s.params.valid = true → s.pos = .rest → s.host = .callInit :: rest →
    (s.phase = .ready → step s = .refused .startInReady) ∧
    (s.phase = .reset ∨ s.phase = .probe ∨ s.phase = .negotiate ∨ s.phase = .readOcr →
      step s = .refused .reentrantStart)

/-- Derived (R206 rests on decisions D15 and D17): an accessor returns a written flag, issues no event and changes no
other field; an `UNWRITTEN` flag is refused. -/
def Obligations.AccessorsReadFlags : Prop :=
  ∀ (s : State) (a : Accessor) (rest : List HostOp), s.params.valid = true → s.pos = .rest → s.host = .get a :: rest →
    (∀ v, s.flag a = some v → step s = .next { s with host := rest, returned := s.returned ++ [(a, v)] }) ∧
    (s.flag a = none → step s = .refused (.unwrittenFlag a))

/-- R170: a faulted session issues no transport, line or chip-select event any more, and keeps its four flags, its
outcome and its phase, unless the caller constructs a new session at rest. -/
def Obligations.FaultedSessionIsTerminal : Prop :=
  ∀ (s t : State), s.phase = .faulted → s.pos = .rest ∨ s.pos = .done →
    (s.pos = .rest → s.constructsNext = false) → step s = .next t →
    t.phase = .faulted ∧ (t.pos = .rest ∨ t.pos = .done) ∧
    (t.trace = s.trace ∨ ∃ e, isHostEvent e = true ∧ t.trace = s.trace ++ [e]) ∧
    t.timedOut = s.timedOut ∧ t.faulted = s.faulted ∧ t.isV2 = s.isV2 ∧ t.isHighCapacity = s.isHighCapacity ∧
    t.firstCmdPending = s.firstCmdPending ∧ t.outcome = s.outcome

/-! ## Setup and power-up clocking -/

/-- Derived (R153 to R155 rest on decisions D10 to D12 and D21): from its first event to the place of the reset command
a run issues `CFG_CLK`, `CFG_OUT`, `CS(HIGH)`, `N_IDLE_HIGH` fill bytes, `CS(LOW)`, `N_IDLE_LOW` fill bytes and
`CS(HIGH)`, whatever is received. -/
def Obligations.PowerUpSequence : Prop :=
  ∀ (s : State) (hi lo : List Byte) (rest : List EnvAct), s.params.valid = true → s.pos = .cfgClk →
    hi.length = s.params.nIdleHigh → lo.length = s.params.nIdleLow → s.env = (hi ++ lo).map .reply ++ rest →
    rest.all isReply = true →
    ∃ t, runSteps (5 + s.params.nIdleHigh + s.params.nIdleLow) s = .next t ∧ t.pos = .command .reset ∧
      t.trace = s.trace ++ [.cfgClk s.busHandle s.params.handshakeClock, .cfgOut s.chipSelect, .cs s.chipSelect .high] ++
        fillReads s hi ++ [.cs s.chipSelect .low] ++ fillReads s lo ++ [.cs s.chipSelect .high] ∧
      t.csLevel = .high ∧ t.clkCfg = .rate s.params.handshakeClock ∧ t.env = rest ∧
      t.firstCmdPending = s.firstCmdPending ∧ t.phase = s.phase ∧ t.isV2 = s.isV2 ∧ t.params = s.params

/-! ## One command exchange -/

/-- Derived (R127's opening): for every command chip-select is asserted before the first command byte, and the frame
formed is the one of R100 for the command's index and argument. -/
def Obligations.EveryCommandOpensItsExchange : Prop :=
  ∀ (i : Instr) (s : State), s.envOk = true → (∀ j x, s.pos ≠ .exch j x) →
    exec i s = .next { s with
      trace := s.trace ++ [.cs s.chipSelect .low], csLevel := .low, env := s.envReturned,
      f := some (frame s.params.dummyCrc (i.index s.params) (i.argument s.params) s.firstCmdPending),
      pos := .exch i (.frame 0) }

/-- Derived (R101 to R103; R102 is the spec's inference): the six bytes of the frame buffer are sent in order in exactly
six exchanges, what they receive is discarded, chip-select stays, and `first_cmd_pending` is then clear. -/
def Obligations.FrameIsSentInSixExchanges : Prop :=
  ∀ (s : State) (i : Instr) (f : Frame) (bs : List Byte) (rest : List EnvAct), s.params.valid = true →
    s.pos = .exch i (.frame 0) → s.f = some f → bs.length = 6 → s.env = bs.map .reply ++ rest →
    ∃ t, runSteps 6 s = .next t ∧ t.pos = .exch i .token ∧ t.tokenTries = some 0 ∧ t.firstCmdPending = false ∧
      t.trace = s.trace ++ List.zipWith (fun o b => Event.xchg s.busHandle o b) f.bytes bs ∧
      t.csLevel = s.csLevel ∧ t.r = s.r ∧ t.env = rest ∧ t.params = s.params ∧ t.shape = s.shape

/-- Derived (R121 rests on decision D9; R122 to R124): a read of a shape without busy drain whose token is the j-th
byte, j at most the budget, takes exactly j reads and then the shape's other bytes, stored whatever they are; the rest
of the buffer keeps its contents. -/
def Obligations.ReadStoresResponseBytes : Prop :=
  ∀ (s : State) (i : Instr) (pre ext : List Byte) (tok : Byte) (rest : List EnvAct), s.params.valid = true →
    s.pos = .exch i .token → s.tokenTries = some 0 → instrShape s.shape i ≠ .s1b →
    (∀ b ∈ pre, b.getLsbD 7 = true) → tok.getLsbD 7 = false → pre.length < s.params.tokenRetries →
    ext.length + 1 = shapeLen (instrShape s.shape i) → s.env = (pre ++ tok :: ext).map .reply ++ rest →
    ∃ t, runSteps (pre.length + 1 + ext.length) s = .next t ∧ t.pos = .exch i (.release .ok) ∧
      t.tokenTries = some (pre.length + 1) ∧
      ([t.r.r0, t.r.r1, t.r.r2, t.r.r3, t.r.r4] : List (Option Byte)) =
        (tok :: ext).map some ++ [s.r.r0, s.r.r1, s.r.r2, s.r.r3, s.r.r4].drop (ext.length + 1) ∧
      t.trace = s.trace ++ fillReads s (pre ++ tok :: ext) ∧ t.csLevel = s.csLevel ∧ t.env = rest

/-- Derived (R121, R127 and the timeouts of R156, R157, R161, R162, R166; decision D9): a read that finds no token in
its budget makes exactly that many reads and then releases chip-select; a command of the sequencer enters the failure
state with its own cause. That the generic frame's timeout leads to rest with its phase unchanged is the model's choice of
log entry 7. -/
def Obligations.TokenTimeoutAfterBudget : Prop :=
  ∀ (s : State) (i : Instr) (pre : List Byte) (rest : List EnvAct), s.params.valid = true →
    s.pos = .exch i .token → s.tokenTries = some 0 → (∀ b ∈ pre, b.getLsbD 7 = true) →
    pre.length = s.params.tokenRetries → s.env = pre.map .reply ++ rest → rest.all isReply = true →
    ∃ t, runSteps (s.params.tokenRetries + 1) s = .next t ∧
      t.trace = s.trace ++ fillReads s pre ++ [.cs s.chipSelect .high] ∧ t.csLevel = .high ∧
      t.result = some .timeoutToken ∧ t.r = s.r ∧ t.env = rest ∧
      (∀ c, tokenTimeoutCause i = some c → t.phase = .faulted ∧ t.pos = .faultRelease c) ∧
      (tokenTimeoutCause i = none → t.phase = s.phase ∧ t.pos = .rest)

/-- Derived (R125 rests on decision D13): the busy drain of a generic frame ends with the first non-zero byte within its
budget, after which one dummy byte is sent with chip-select still as it was; a budget of zero bytes is a busy timeout,
after the same dummy byte. -/
def Obligations.BusyDrainEndsOrTimesOut : Prop :=
  ∀ (s : State) (idx : Byte) (arg : Arg) (zeros : List Byte) (b dummy : Byte) (rest : List EnvAct),
    s.params.valid = true → s.pos = .exch (.cmd idx arg) .drain → s.busyTries = some 0 → (∀ z ∈ zeros, z = 0) →
    (zeros.length < s.params.busyRetries → b ≠ 0 → s.env = (zeros ++ [b, dummy]).map .reply ++ rest →
      ∃ t, runSteps (zeros.length + 2) s = .next t ∧ t.pos = .exch (.cmd idx arg) (.release .ok) ∧ t.r = s.r ∧
        t.trace = s.trace ++ fillReads s (zeros ++ [b, dummy]) ∧ t.csLevel = s.csLevel ∧ t.env = rest) ∧
    (zeros.length = s.params.busyRetries → s.env = (zeros ++ [dummy]).map .reply ++ rest →
      ∃ t, runSteps (zeros.length + 1) s = .next t ∧ t.pos = .exch (.cmd idx arg) (.release .timeoutBusy) ∧ t.r = s.r ∧
        t.trace = s.trace ++ fillReads s (zeros ++ [dummy]) ∧ t.csLevel = s.csLevel ∧ t.env = rest)

/-- Derived (R121 rests on decision D9, R125 on decision D13): a read of the shape S1B whose token is the j-th byte, j at
most the budget, stores the token as `r[0]` and nothing else, starts the busy drain with `busy_tries` at zero and the very
next byte, and ends as the drain does: with the first non-zero byte within its budget, or with a busy timeout after a
budget of zero bytes; on both paths after one dummy byte. -/
def Obligations.BusyReadFromItsToken : Prop :=
  ∀ (s : State) (idx : Byte) (arg : Arg) (pre zeros : List Byte) (tok b dummy : Byte) (rest : List EnvAct),
    s.params.valid = true → s.pos = .exch (.cmd idx arg) .token → s.tokenTries = some 0 → s.shape = .s1b →
    (∀ z ∈ pre, z.getLsbD 7 = true) → tok.getLsbD 7 = false → pre.length < s.params.tokenRetries →
    (∀ z ∈ zeros, z = 0) →
    (s.env = (pre ++ [tok]).map .reply ++ rest →
      ∃ t, runSteps (pre.length + 1) s = .next t ∧ t.pos = .exch (.cmd idx arg) .drain ∧ t.busyTries = some 0 ∧
        t.tokenTries = some (pre.length + 1) ∧ t.r = { s.r with r0 := some tok } ∧
        t.trace = s.trace ++ fillReads s (pre ++ [tok]) ∧ t.csLevel = s.csLevel ∧ t.env = rest) ∧
    (zeros.length < s.params.busyRetries → b ≠ 0 → s.env = (pre ++ tok :: zeros ++ [b, dummy]).map .reply ++ rest →
      ∃ t, runSteps (pre.length + 1 + zeros.length + 2) s = .next t ∧
        t.pos = .exch (.cmd idx arg) (.release .ok) ∧ t.busyTries = some (zeros.length + 1) ∧
        t.r = { s.r with r0 := some tok } ∧ t.trace = s.trace ++ fillReads s (pre ++ tok :: zeros ++ [b, dummy]) ∧
        t.csLevel = s.csLevel ∧ t.env = rest) ∧
    (zeros.length = s.params.busyRetries → s.env = (pre ++ tok :: zeros ++ [dummy]).map .reply ++ rest →
      ∃ t, runSteps (pre.length + 1 + zeros.length + 1) s = .next t ∧
        t.pos = .exch (.cmd idx arg) (.release .timeoutBusy) ∧ t.busyTries = some zeros.length ∧
        t.r = { s.r with r0 := some tok } ∧ t.trace = s.trace ++ fillReads s (pre ++ tok :: zeros ++ [dummy]) ∧
        t.csLevel = s.csLevel ∧ t.env = rest)

/-- Derived (R128 is the spec's inference): inside an exchange a step either exchanges one byte and stays inside it, or
releases chip-select and leaves it; no other event occurs. -/
def Obligations.ExchangeIsBracketed : Prop :=
  ∀ (s t : State) (i : Instr) (x : ExchangePos), s.pos = .exch i x → step s = .next t →
    ((∃ o b y, t.trace = s.trace ++ [.xchg s.busHandle o b] ∧ t.pos = .exch i y ∧ t.csLevel = s.csLevel) ∨
     (t.trace = s.trace ++ [.cs s.chipSelect .high] ∧ t.csLevel = .high ∧ ∀ j y, t.pos ≠ .exch j y))

/-! ## What each command does with its response -/

/-- R156: the reset command's exchange is `EXCHANGE(IDX_RESET, 0, S1)`, whose frame in a run is the session's first; a
token timeout raises the timeout of R221's first code; status 0x01 alone leads to the probe; any other status is a
protocol fault, after which the run reports `faulted` without having formed another frame. -/
def Obligations.ResetCommandDecides : Prop :=
  ∀ (s : State), s.envOk = true →
    (s.params.valid = true → s.Inv → s.pos = .command .reset →
      ∃ t, step s = .next t ∧ t.pos = .exch .cmdReset (.frame 0) ∧ instrShape t.shape .cmdReset = .s1 ∧
        t.f = some (frame s.params.dummyCrc s.params.idxReset 0 true)) ∧
    (s.pos = .exch .cmdReset .token → s.tokenTries = some s.params.tokenRetries →
      exec .cmdReset s = .next { s with
        trace := s.trace ++ [.cs s.chipSelect .high], csLevel := .high, env := s.envReturned, result := some .timeoutToken,
        phase := .faulted, pos := .faultRelease .tTokenReset }) ∧
    (s.pos = .exch .cmdReset (.release .ok) → s.r.r0 = some 0x01 →
      exec .cmdReset s = .next { s with
        trace := s.trace ++ [.cs s.chipSelect .high], csLevel := .high, env := s.envReturned, result := some .ok,
        phase := .probe, pos := .command .probe }) ∧
    (∀ b, s.pos = .exch .cmdReset (.release .ok) → s.r.r0 = some b → b ≠ 0x01 →
      exec .cmdReset s = .next { s with
        trace := s.trace ++ [.cs s.chipSelect .high], csLevel := .high, env := s.envReturned, result := some .ok,
        phase := .faulted, pos := .faultRelease .fResetStatus }) ∧
    (∀ b d rest, s.params.valid = true → s.pos = .exch .cmdReset (.release .ok) → s.r.r0 = some b → b ≠ 0x01 →
      s.timedOut = some false → s.env = .reply d :: rest →
      ∃ t, runSteps 4 s = .next t ∧ t.pos = .rest ∧ t.phase = .faulted ∧ t.outcome = .faulted ∧
        t.faulted = some true ∧ t.timedOut = some false ∧ t.f = s.f)

/-- Derived (R159; that nothing else of the response is tested is decision D31, log entry 19: unsafe): with the idle bit
set, an illegal-command bit that is clear marks the card v2, and one that is set leaves the flag; either way the
negotiation starts, and nothing else of the response matters. -/
def Obligations.ProbeDetectsVersion : Prop :=
  ∀ (s : State) (b : Byte), s.envOk = true → s.pos = .exch .cmdIfCond (.release .ok) → s.r.r0 = some b →
    b &&& 0x01 ≠ 0 →
    exec .cmdIfCond s = .next { s with
      trace := s.trace ++ [.cs s.chipSelect .high], csLevel := .high, env := s.envReturned, result := some .ok,
      isV2 := if b &&& s.params.maskIllegal = 0 then some true else s.isV2,
      phase := .negotiate, negAttempts := some 0, pos := .command .attempt }

/-- Derived (R158 rests on decision D31): a probe status with the idle bit clear is a protocol fault. -/
def Obligations.ProbeNotIdleFaults : Prop :=
  ∀ (s : State) (b : Byte), s.envOk = true → s.pos = .exch .cmdIfCond (.release .ok) → s.r.r0 = some b →
    b &&& 0x01 = 0 →
    exec .cmdIfCond s = .next { s with
      trace := s.trace ++ [.cs s.chipSelect .high], csLevel := .high, env := s.envReturned, result := some .ok,
      phase := .faulted, pos := .faultRelease .fProbeNotIdle }

/-- Derived (R161 rests on decision D31): after the command prefix the query follows, whatever the prefix's status. -/
def Obligations.AppCommandStatusIsNotTested : Prop :=
  ∀ (s : State), s.envOk = true → s.pos = .exch .cmdApp (.release .ok) →
    exec .cmdApp s = .next { s with
      trace := s.trace ++ [.cs s.chipSelect .high], csLevel := .high, env := s.envReturned, result := some .ok, pos := .command .query }

/-- R163 and R164: the query's response ends the loop exactly where it is ready, and the command prefix's response never
does; then a non-zero status faults, and a zero one goes to R165's gate on `is_v2`, as the sequencer reads it. -/
def Obligations.QueryResponseDecides : Prop :=
  ∀ (s : State) (arg : Arg) (b0 b1 : Byte), s.envOk = true → s.r.r0 = some b0 → s.r.r1 = some b1 →
    (s.pos = .exch .cmdApp (.release .ok) → ∃ t, exec .cmdApp s = .next t ∧ t.pos = .command .query) ∧
    (s.pos = .exch (.acmdOpCond arg) (.release .ok) → exec (.acmdOpCond arg) s = .next (
      if b0 &&& 0x01 = 0 ∧ b1 &&& s.params.maskOcrReady ≠ 0 then
        if b0 ≠ 0x00 then
          { s with
            trace := s.trace ++ [.cs s.chipSelect .high], csLevel := .high, env := s.envReturned, result := some .ok,
            phase := .faulted, pos := .faultRelease .fNegStatus }
        else if s.version then
          { s with
            trace := s.trace ++ [.cs s.chipSelect .high], csLevel := .high, env := s.envReturned, result := some .ok,
            phase := .readOcr, ocrAttempts := some 0, pos := .command .register }
        else
          { s with
            trace := s.trace ++ [.cs s.chipSelect .high], csLevel := .high, env := s.envReturned, result := some .ok,
            phase := .ready, outcome := .success, pos := .done }
      else
        { s with
          trace := s.trace ++ [.cs s.chipSelect .high], csLevel := .high, env := s.envReturned, result := some .ok,
          pos := .command .attempt }))

/-- Derived (R166 rests on decision D31; R167, R168): a ready register-read response sets the capacity flag and ends the
run with success; any other leads to the loop's head. -/
def Obligations.RegisterReadDecides : Prop :=
  ∀ (s : State) (b0 b1 : Byte), s.envOk = true → s.pos = .exch .cmdReadOcr (.release .ok) →
    s.r.r0 = some b0 → s.r.r1 = some b1 →
    exec .cmdReadOcr s = .next (
      if b0 &&& 0x01 = 0 ∧ b1 &&& s.params.maskOcrReady ≠ 0 then
        { s with
          trace := s.trace ++ [.cs s.chipSelect .high], csLevel := .high, env := s.envReturned, result := some .ok,
          isHighCapacity := some (b1 &&& s.params.maskOcrCcs != 0), phase := .ready, outcome := .success, pos := .done }
      else
        { s with
          trace := s.trace ++ [.cs s.chipSelect .high], csLevel := .high, env := s.envReturned, result := some .ok,
          pos := .command .register })

/-- Derived (part of R129; log entry 7): the exchange of a generic frame returns its result to the caller whatever the
stored bytes are, and decides nothing: flags, phase, outcome and buffers stay. -/
def Obligations.GenericExchangeReturnsResult : Prop :=
  ∀ (s : State) (idx : Byte) (arg : Arg) (res : ReadResult), s.envOk = true →
    s.pos = .exch (.cmd idx arg) (.release res) →
    exec (.cmd idx arg) s = .next { s with
      trace := s.trace ++ [.cs s.chipSelect .high], csLevel := .high, env := s.envReturned, result := some res, pos := .rest }

/-- R167: a ready register-read response writes the capacity bit to `is_high_capacity`, and this is the flag's only
write: a new session's `UNWRITTEN` aside, no other step changes it. -/
def Obligations.CapacityFlagHasOneWriter : Prop :=
  ∀ (s t : State), step s = .next t →
    (s.pos = .exch .cmdReadOcr (.release .ok) → readyResp s.params s.status s.second = true →
      t.isHighCapacity = some (s.second &&& s.params.maskOcrCcs != 0)) ∧
    ((s.pos = .rest → s.constructsNext = false) →
      ¬(s.pos = .exch .cmdReadOcr (.release .ok) ∧ readyResp s.params s.status s.second = true) →
      t.isHighCapacity = s.isHighCapacity)

/-! ## The failure state and the end of a run -/

/-- Derived (R169 rests on decision D19 and conflicts C1, C2): the Faulted procedure releases chip-select, clocks one
dummy byte, sets `faulted`, sets `timed_out` on a timeout, records the cause and returns the outcome. -/
def Obligations.FaultProcedureRuns : Prop :=
  ∀ (s : State) (c : Cause) (b : Byte) (rest : List EnvAct), s.params.valid = true → s.pos = .faultRelease c →
    s.env = .reply b :: rest → s.timedOut = some false →
    runSteps 3 s = .next { s with
      trace := s.trace ++ [.cs s.chipSelect .high, .xchg s.busHandle s.params.fill b,
        .done (if c.isTimeout then .timedOut else .faulted)],
      csLevel := .high, env := rest, rxCount := s.rxCount + 1, faulted := some true, timedOut := some c.isTimeout,
      cause := some c, outcome := if c.isTimeout then .timedOut else .faulted, pos := .rest }

/-- Derived (R205 rests on decision D19): what `DONE` returns and the flags agree after every run. -/
def Obligations.DoneReturnsOutcomeOfFlags : Prop :=
  ∀ (s t : State), s.Inv → s.pos = .done → step s = .next t →
    t.trace = s.trace ++ [.done s.outcome] ∧ t.pos = .rest ∧ t.csLevel = .high ∧
    (s.outcome = .success ↔ s.phase = .ready) ∧
    (s.outcome = .timedOut ↔ s.timedOut = some true) ∧
    (s.outcome = .faulted ↔ s.timedOut = some false ∧ s.faulted = some true)

/-! ## Frames and writers -/

/-- Derived (R36): what every command leaves unchanged. First, what no event of a command writes, and the fields that
only some commands write; then, for each kind of event, what it leaves: the opening, an event inside the exchange before
its end, the token timeout, and the release. The trace grows by one event. -/
def Obligations.CommandFrame : Prop :=
  ∀ (i : Instr) (s t : State), exec i s = .next t →
    t.chipSelect = s.chipSelect ∧ t.busHandle = s.busHandle ∧ t.timedOut = s.timedOut ∧ t.faulted = s.faulted ∧
    t.cause = s.cause ∧ t.clkCfg = s.clkCfg ∧ t.shape = s.shape ∧ t.params = s.params ∧ t.host = s.host ∧
    t.returned = s.returned ∧ (∃ e, t.trace = s.trace ++ [e]) ∧
    (i ≠ .cmdIfCond → t.isV2 = s.isV2 ∧ t.negAttempts = s.negAttempts) ∧
    ((∀ arg, i ≠ .acmdOpCond arg) → t.ocrAttempts = s.ocrAttempts) ∧
    (i ≠ .cmdReadOcr → t.isHighCapacity = s.isHighCapacity) ∧
    ((∀ arg, i ≠ .acmdOpCond arg) → i ≠ .cmdReadOcr → t.outcome = s.outcome) ∧
    (∀ idx arg, i = .cmd idx arg → t.phase = s.phase) ∧
    (∀ j, s.pos = .exch j (.frame 5) → t.firstCmdPending = false) ∧
    ((∀ j, s.pos ≠ .exch j (.frame 5)) → t.firstCmdPending = s.firstCmdPending) ∧
    ((∀ j x, s.pos ≠ .exch j x) →
      t.phase = s.phase ∧ t.isV2 = s.isV2 ∧ t.negAttempts = s.negAttempts ∧ t.ocrAttempts = s.ocrAttempts ∧
      t.isHighCapacity = s.isHighCapacity ∧ t.outcome = s.outcome ∧ t.result = s.result ∧ t.r = s.r ∧
      t.tokenTries = s.tokenTries ∧ t.busyTries = s.busyTries ∧ t.env = s.envReturned ∧ t.rxCount = s.rxCount) ∧
    (∀ j x, s.pos = .exch j x → (∀ res, x ≠ .release res) →
      (x = .token → s.tokenCount ≠ s.params.tokenRetries) →
      t.phase = s.phase ∧ t.isV2 = s.isV2 ∧ t.negAttempts = s.negAttempts ∧ t.ocrAttempts = s.ocrAttempts ∧
      t.isHighCapacity = s.isHighCapacity ∧ t.outcome = s.outcome ∧ t.result = s.result ∧ t.csLevel = s.csLevel ∧
      t.f = s.f ∧ t.env = s.envRest ∧ t.rxCount = s.rxCount + 1) ∧
    (∀ j k, s.pos = .exch j (.frame k) → t.r = s.r ∧ t.busyTries = s.busyTries ∧
      (k ≠ 5 → t.tokenTries = s.tokenTries)) ∧
    (∀ j k, s.pos = .exch j (.extra k) → t.tokenTries = s.tokenTries ∧ t.busyTries = s.busyTries) ∧
    (∀ j, s.pos = .exch j .drain → t.tokenTries = s.tokenTries ∧ t.r = s.r) ∧
    (∀ j c, s.pos = .exch j (.dummy c) → t.tokenTries = s.tokenTries ∧ t.busyTries = s.busyTries ∧ t.r = s.r) ∧
    (∀ j, s.pos = .exch j .token → s.tokenCount = s.params.tokenRetries →
      t.isV2 = s.isV2 ∧ t.negAttempts = s.negAttempts ∧ t.ocrAttempts = s.ocrAttempts ∧
      t.isHighCapacity = s.isHighCapacity ∧ t.outcome = s.outcome ∧ t.r = s.r ∧ t.f = s.f ∧
      t.tokenTries = s.tokenTries ∧ t.busyTries = s.busyTries ∧ t.env = s.envReturned ∧ t.rxCount = s.rxCount) ∧
    (∀ j res, s.pos = .exch j (.release res) →
      t.r = s.r ∧ t.f = s.f ∧ t.tokenTries = s.tokenTries ∧ t.busyTries = s.busyTries ∧ t.env = s.envReturned ∧
      t.rxCount = s.rxCount)

/-- Derived (part of R21 and R22): the handles are written by construction only, from the caller's arguments, and every
event of the block acts on them. -/
def Obligations.EventsActOnOwnHandles : Prop :=
  ∀ (s t : State), step s = .next t →
    ((s.pos = .rest → s.constructsNext = false) →
      t.chipSelect = s.chipSelect ∧ t.busHandle = s.busHandle ∧
      (t.trace = s.trace ∨ ∃ e, t.trace = s.trace ++ [e] ∧ onHandles s e = true)) ∧
    (∀ cs bus rest, s.pos = .rest → s.host = .construct cs bus :: rest → t.chipSelect = cs ∧ t.busHandle = bus)

/-- Derived (R102 is the spec's inference; R28): `first_cmd_pending` is written only when the sixth byte of a frame has
been sent, to 0, and never set again within the session. -/
def Obligations.FirstCommandFlagIsClearedOnce : Prop :=
  ∀ (s t : State), step s = .next t → (s.pos = .rest → s.constructsNext = false) →
    (∀ i, s.pos = .exch i (.frame 5) → t.firstCmdPending = false) ∧
    ((∀ i, s.pos ≠ .exch i (.frame 5)) → t.firstCmdPending = s.firstCmdPending)

/-- Derived (R23, R24 rest on D14; R37 is the spec's inference): once set, `faulted` and `timed_out` stay set within the
session. -/
def Obligations.StickyFlagsStaySet : Prop :=
  ∀ (s t : State), s.Inv → step s = .next t → (s.pos = .rest → s.constructsNext = false) →
    (s.faulted = some true → t.faulted = some true) ∧ (s.timedOut = some true → t.timedOut = some true)

/-- Derived (R150 is the spec's inference): the phase changes only as R150's table allows, a new session aside. -/
def Obligations.PhaseTransitionsAllowed : Prop :=
  ∀ (s t : State), s.Inv → step s = .next t → (s.pos = .rest → s.constructsNext = false) →
    allowedTransition s.phase t.phase = true

/-- R165: only a v2 card's capacity register is read; a card that is not v2 is ready where the negotiation has
succeeded, and its register read is never issued. -/
def Obligations.RegisterReadNeedsVersionTwo : Prop :=
  ∀ (s t : State), s.Inv → step s = .next t →
    ((∃ x, t.pos = .exch .cmdReadOcr x) → t.isV2 = some true) ∧
    (∀ arg, s.pos = .exch (.acmdOpCond arg) (.release .ok) → readyResp s.params s.status s.second = true →
      s.status = 0x00 →
      (s.isV2 = some true → t.phase = .readOcr ∧ t.pos = .command .register) ∧
      (s.isV2 = some false → t.phase = .ready ∧ t.outcome = .success ∧ t.pos = .done))

/-- Derived (R77, R83, R86; decision D31): no decision reads r[2], r[3] or r[4]: with other bytes there, the step of a
command that closes its exchange does the same. -/
def Obligations.LaterBytesDecideNothing : Prop :=
  ∀ (i : Instr) (s t : State) (res : ReadResult) (a b c : Option Byte), s.pos = .exch i (.release res) →
    exec i s = .next t →
    exec i { s with r := { s.r with r2 := a, r3 := b, r4 := c } } =
      .next { t with r := { t.r with r2 := a, r3 := b, r4 := c } }

/-! ## Invariants -/

/-- Derived (R35 rests on decisions D14 to D16): reset, and construction under every configuration and with every
handles, meets the invariant; and what R35 gives at reset. -/
def Obligations.ConstructionMeetsInvariant : Prop :=
  (∀ p cs bus, (State.construct p cs bus).Inv ∧ (State.construct p cs bus).SetupOnce) ∧
  State.reset.Inv ∧ State.reset.phase = .constructed ∧ State.reset.firstCmdPending = true ∧
  State.reset.outcome = .none ∧ State.reset.cause = none ∧ State.reset.timedOut = none ∧ State.reset.faulted = none ∧
  State.reset.isV2 = none ∧ State.reset.isHighCapacity = none ∧ State.reset.csLevel = .unknown ∧
  State.reset.clkCfg = .unknown ∧ State.reset.trace = []

/-- Derived (R29, R37, R102, R150, R205, R254): every step keeps the invariant: chip-select discipline, phase and
position, flags and outcome, version, counters within budgets, the first frame, and no decision on an `UNWRITTEN` byte.
-/
def Obligations.InvariantIsKept : Prop :=
  ∀ (s t : State), s.Inv → step s = .next t → t.Inv

/-- Derived (R37, R254 are the spec's inferences): chip-select discipline is kept from every state, reachable or not. -/
def Obligations.ChipSelectDisciplineIsKept : Prop :=
  ∀ (s t : State), s.LineOk → step s = .next t → t.LineOk

/-- Derived (R173 (d) is the spec's inference): a run configures the clock and the line exactly once. -/
def Obligations.SetupHappensOnce : Prop :=
  ∀ (s t : State), s.Inv → s.SetupOnce → step s = .next t → t.SetupOnce

/-! ## Progress and termination -/

/-- Derived (R52, R103, R258): in a run whose environment keeps its duties every step completes. -/
def Obligations.RunMakesProgress : Prop :=
  ∀ (s : State), s.params.valid = true → s.running → s.pos ≠ .direct → s.envOk = true → ∃ t, step s = .next t

/-- Derived (R171 is the spec's inference): every step of a run lowers the bound on the events it has left, and the
bound at the start of a run is R171's, and `DONE`. -/
def Obligations.EventsLeftGoDown : Prop :=
  (∀ (s t : State), s.Inv → s.running → step s = .next t → t.eventsLeft < s.eventsLeft) ∧
  (∀ (s : State), s.pos = .cfgClk → s.eventsLeft = runBound s.params + 1)

/-- Derived (R171, P3): from every state of a run whose environment keeps its duties by its script, the run ends within
the bound, at rest in READY or FAULTED. -/
def Obligations.RunTerminates : Prop :=
  ∀ (s : State), s.params.valid = true → s.Inv → s.running → s.conforming = true →
    ∃ n t, n ≤ s.eventsLeft ∧ runSteps n s = .next t ∧ t.pos = .rest ∧ (t.phase = .ready ∨ t.phase = .faulted)

/-- Derived (P3; R156, R169, R171; decision D9): with a card that never sends a token, a run on a fresh session ends
after exactly `N_IDLE_HIGH + N_IDLE_LOW + 5` setup events, one timed-out exchange, the Faulted procedure, and reports
`timed_out`. -/
def Obligations.AbsentCardTimesOut : Prop :=
  ∀ (s : State) (ops : List HostOp) (bs : List Byte) (rest : List EnvAct), s.params.valid = true → s.pos = .rest →
    s.phase = .constructed → s.firstCmdPending = true → s.host = .callInit :: ops → (∀ b ∈ bs, b.getLsbD 7 = true) →
    bs.length = s.params.nIdleHigh + s.params.nIdleLow + 6 + s.params.tokenRetries + 1 →
    s.env = bs.map .reply ++ rest → rest.all isReply = true →
    ∃ t, runSteps (s.params.nIdleHigh + s.params.nIdleLow + s.params.tokenRetries + 17) s = .next t ∧ t.pos = .rest ∧
      t.phase = .faulted ∧ t.outcome = .timedOut ∧ t.timedOut = some true ∧ t.faulted = some true ∧
      t.isV2 = some false ∧ t.isHighCapacity = s.isHighCapacity ∧ t.cause = some .tTokenReset ∧ t.csLevel = .high ∧
      t.firstCmdPending = false ∧
      t.trace.length = s.trace.length + (s.params.nIdleHigh + s.params.nIdleLow + s.params.tokenRetries + 17) ∧
      t.f = some (frame s.params.dummyCrc s.params.idxReset 0 true)

/-! ## The environment -/

/-- Derived (R258 rests on decision D27; R204 on D16 and D18): at every collaborator call of a run, a call that never
returns leaves the block stuck, and a breach of single ownership is refused. That each takes effect at the block's next
collaborator call is the model's choice of log entry 8. -/
def Obligations.EnvironmentStopsAreKept : Prop :=
  ∀ (s : State) (rest : List EnvAct), s.params.valid = true → s.running → s.pos ≠ .direct → s.pos ≠ .done →
    (s.env = .hang :: rest → step s = .fault .collaboratorHang) ∧
    (s.env = .reenter :: rest → step s = .refused .reentrantStart) ∧
    (s.env = .otherSession :: rest → step s = .refused .busNotExclusive)

/-- Derived (R51, R59, R208, R209; the script and its form are the model's, log entry 8): at every collaborator call of a
run, an entry that says the call returns is taken by this call, whatever the call is; a received byte is taken by an
`XCHG`, which receives it, and waits at any other call. So, with `EnvironmentStopsAreKept`, a hang or a breach can follow
any call. -/
def Obligations.CallTakesItsEntry : Prop :=
  ∀ (s : State) (rest : List EnvAct), s.params.valid = true → s.running → s.pos ≠ .direct → s.pos ≠ .done →
    (s.env = .returns :: rest → ∃ t e, step s = .next t ∧ t.trace = s.trace ++ [e] ∧ t.env = rest) ∧
    (∀ b, s.env = .reply b :: rest → ∃ t e, step s = .next t ∧ t.trace = s.trace ++ [e] ∧
      ((t.env = rest ∧ ∃ o, e = .xchg s.busHandle o b) ∨ (t.env = s.env ∧ isXchg e = false)))
end

