-- ==== Sys2Proof/Laws/State.lean ====
section
/-! SUPPORT. What each named update of the state does to each field. -/

namespace Sys2Proof.Machine

/-! Appending an event. -/

@[simp] theorem State.log_chipSelect (s : State) (e : Event) : (s.log e).chipSelect = s.chipSelect := rfl
@[simp] theorem State.log_busHandle (s : State) (e : Event) : (s.log e).busHandle = s.busHandle := rfl
@[simp] theorem State.log_timedOut (s : State) (e : Event) : (s.log e).timedOut = s.timedOut := rfl
@[simp] theorem State.log_faulted (s : State) (e : Event) : (s.log e).faulted = s.faulted := rfl
@[simp] theorem State.log_isV2 (s : State) (e : Event) : (s.log e).isV2 = s.isV2 := rfl
@[simp] theorem State.log_isHighCapacity (s : State) (e : Event) : (s.log e).isHighCapacity = s.isHighCapacity := rfl
@[simp] theorem State.log_phase (s : State) (e : Event) : (s.log e).phase = s.phase := rfl
@[simp] theorem State.log_firstCmdPending (s : State) (e : Event) : (s.log e).firstCmdPending = s.firstCmdPending := rfl
@[simp] theorem State.log_negAttempts (s : State) (e : Event) : (s.log e).negAttempts = s.negAttempts := rfl
@[simp] theorem State.log_ocrAttempts (s : State) (e : Event) : (s.log e).ocrAttempts = s.ocrAttempts := rfl
@[simp] theorem State.log_tokenTries (s : State) (e : Event) : (s.log e).tokenTries = s.tokenTries := rfl
@[simp] theorem State.log_busyTries (s : State) (e : Event) : (s.log e).busyTries = s.busyTries := rfl
@[simp] theorem State.log_r (s : State) (e : Event) : (s.log e).r = s.r := rfl
@[simp] theorem State.log_f (s : State) (e : Event) : (s.log e).f = s.f := rfl
@[simp] theorem State.log_outcome (s : State) (e : Event) : (s.log e).outcome = s.outcome := rfl
@[simp] theorem State.log_cause (s : State) (e : Event) : (s.log e).cause = s.cause := rfl
@[simp] theorem State.log_csLevel (s : State) (e : Event) : (s.log e).csLevel = s.csLevel := rfl
@[simp] theorem State.log_clkCfg (s : State) (e : Event) : (s.log e).clkCfg = s.clkCfg := rfl
@[simp] theorem State.log_pos (s : State) (e : Event) : (s.log e).pos = s.pos := rfl
@[simp] theorem State.log_result (s : State) (e : Event) : (s.log e).result = s.result := rfl
@[simp] theorem State.log_shape (s : State) (e : Event) : (s.log e).shape = s.shape := rfl
@[simp] theorem State.log_params (s : State) (e : Event) : (s.log e).params = s.params := rfl
@[simp] theorem State.log_env (s : State) (e : Event) : (s.log e).env = s.env := rfl
@[simp] theorem State.log_rxCount (s : State) (e : Event) : (s.log e).rxCount = s.rxCount := rfl
@[simp] theorem State.log_host (s : State) (e : Event) : (s.log e).host = s.host := rfl
@[simp] theorem State.log_returned (s : State) (e : Event) : (s.log e).returned = s.returned := rfl
@[simp] theorem State.log_trace (s : State) (e : Event) : (s.log e).trace = s.trace ++ [e] := rfl

/-! Moving to a position. -/

@[simp] theorem State.goTo_chipSelect (s : State) (q : Pos) : (s.goTo q).chipSelect = s.chipSelect := rfl
@[simp] theorem State.goTo_busHandle (s : State) (q : Pos) : (s.goTo q).busHandle = s.busHandle := rfl
@[simp] theorem State.goTo_timedOut (s : State) (q : Pos) : (s.goTo q).timedOut = s.timedOut := rfl
@[simp] theorem State.goTo_faulted (s : State) (q : Pos) : (s.goTo q).faulted = s.faulted := rfl
@[simp] theorem State.goTo_isV2 (s : State) (q : Pos) : (s.goTo q).isV2 = s.isV2 := rfl
@[simp] theorem State.goTo_isHighCapacity (s : State) (q : Pos) : (s.goTo q).isHighCapacity = s.isHighCapacity := rfl
@[simp] theorem State.goTo_phase (s : State) (q : Pos) : (s.goTo q).phase = s.phase := rfl
@[simp] theorem State.goTo_firstCmdPending (s : State) (q : Pos) : (s.goTo q).firstCmdPending = s.firstCmdPending := rfl
@[simp] theorem State.goTo_negAttempts (s : State) (q : Pos) : (s.goTo q).negAttempts = s.negAttempts := rfl
@[simp] theorem State.goTo_ocrAttempts (s : State) (q : Pos) : (s.goTo q).ocrAttempts = s.ocrAttempts := rfl
@[simp] theorem State.goTo_tokenTries (s : State) (q : Pos) : (s.goTo q).tokenTries = s.tokenTries := rfl
@[simp] theorem State.goTo_busyTries (s : State) (q : Pos) : (s.goTo q).busyTries = s.busyTries := rfl
@[simp] theorem State.goTo_r (s : State) (q : Pos) : (s.goTo q).r = s.r := rfl
@[simp] theorem State.goTo_f (s : State) (q : Pos) : (s.goTo q).f = s.f := rfl
@[simp] theorem State.goTo_outcome (s : State) (q : Pos) : (s.goTo q).outcome = s.outcome := rfl
@[simp] theorem State.goTo_cause (s : State) (q : Pos) : (s.goTo q).cause = s.cause := rfl
@[simp] theorem State.goTo_csLevel (s : State) (q : Pos) : (s.goTo q).csLevel = s.csLevel := rfl
@[simp] theorem State.goTo_clkCfg (s : State) (q : Pos) : (s.goTo q).clkCfg = s.clkCfg := rfl
@[simp] theorem State.goTo_pos (s : State) (q : Pos) : (s.goTo q).pos = q := rfl
@[simp] theorem State.goTo_result (s : State) (q : Pos) : (s.goTo q).result = s.result := rfl
@[simp] theorem State.goTo_shape (s : State) (q : Pos) : (s.goTo q).shape = s.shape := rfl
@[simp] theorem State.goTo_params (s : State) (q : Pos) : (s.goTo q).params = s.params := rfl
@[simp] theorem State.goTo_env (s : State) (q : Pos) : (s.goTo q).env = s.env := rfl
@[simp] theorem State.goTo_rxCount (s : State) (q : Pos) : (s.goTo q).rxCount = s.rxCount := rfl
@[simp] theorem State.goTo_host (s : State) (q : Pos) : (s.goTo q).host = s.host := rfl
@[simp] theorem State.goTo_returned (s : State) (q : Pos) : (s.goTo q).returned = s.returned := rfl
@[simp] theorem State.goTo_trace (s : State) (q : Pos) : (s.goTo q).trace = s.trace := rfl

/-! `CFG_CLK`. -/

@[simp] theorem State.configureClock_chipSelect (s : State) : (s.configureClock).chipSelect = s.chipSelect := rfl
@[simp] theorem State.configureClock_busHandle (s : State) : (s.configureClock).busHandle = s.busHandle := rfl
@[simp] theorem State.configureClock_timedOut (s : State) : (s.configureClock).timedOut = s.timedOut := rfl
@[simp] theorem State.configureClock_faulted (s : State) : (s.configureClock).faulted = s.faulted := rfl
@[simp] theorem State.configureClock_isV2 (s : State) : (s.configureClock).isV2 = s.isV2 := rfl
@[simp] theorem State.configureClock_isHighCapacity (s : State) : (s.configureClock).isHighCapacity = s.isHighCapacity := rfl
@[simp] theorem State.configureClock_phase (s : State) : (s.configureClock).phase = s.phase := rfl
@[simp] theorem State.configureClock_firstCmdPending (s : State) : (s.configureClock).firstCmdPending = s.firstCmdPending := rfl
@[simp] theorem State.configureClock_negAttempts (s : State) : (s.configureClock).negAttempts = s.negAttempts := rfl
@[simp] theorem State.configureClock_ocrAttempts (s : State) : (s.configureClock).ocrAttempts = s.ocrAttempts := rfl
@[simp] theorem State.configureClock_tokenTries (s : State) : (s.configureClock).tokenTries = s.tokenTries := rfl
@[simp] theorem State.configureClock_busyTries (s : State) : (s.configureClock).busyTries = s.busyTries := rfl
@[simp] theorem State.configureClock_r (s : State) : (s.configureClock).r = s.r := rfl
@[simp] theorem State.configureClock_f (s : State) : (s.configureClock).f = s.f := rfl
@[simp] theorem State.configureClock_outcome (s : State) : (s.configureClock).outcome = s.outcome := rfl
@[simp] theorem State.configureClock_cause (s : State) : (s.configureClock).cause = s.cause := rfl
@[simp] theorem State.configureClock_csLevel (s : State) : (s.configureClock).csLevel = s.csLevel := rfl
@[simp] theorem State.configureClock_clkCfg (s : State) : (s.configureClock).clkCfg = .rate s.params.handshakeClock := rfl
@[simp] theorem State.configureClock_pos (s : State) : (s.configureClock).pos = s.pos := rfl
@[simp] theorem State.configureClock_result (s : State) : (s.configureClock).result = s.result := rfl
@[simp] theorem State.configureClock_shape (s : State) : (s.configureClock).shape = s.shape := rfl
@[simp] theorem State.configureClock_params (s : State) : (s.configureClock).params = s.params := rfl
@[simp] theorem State.configureClock_env (s : State) : (s.configureClock).env = s.envReturned := rfl
@[simp] theorem State.configureClock_rxCount (s : State) : (s.configureClock).rxCount = s.rxCount := rfl
@[simp] theorem State.configureClock_host (s : State) : (s.configureClock).host = s.host := rfl
@[simp] theorem State.configureClock_returned (s : State) : (s.configureClock).returned = s.returned := rfl
@[simp] theorem State.configureClock_trace (s : State) : (s.configureClock).trace = s.trace ++ [.cfgClk s.busHandle s.params.handshakeClock] := rfl

/-! `CFG_OUT`. -/

@[simp] theorem State.configureLine_chipSelect (s : State) : (s.configureLine).chipSelect = s.chipSelect := rfl
@[simp] theorem State.configureLine_busHandle (s : State) : (s.configureLine).busHandle = s.busHandle := rfl
@[simp] theorem State.configureLine_timedOut (s : State) : (s.configureLine).timedOut = s.timedOut := rfl
@[simp] theorem State.configureLine_faulted (s : State) : (s.configureLine).faulted = s.faulted := rfl
@[simp] theorem State.configureLine_isV2 (s : State) : (s.configureLine).isV2 = s.isV2 := rfl
@[simp] theorem State.configureLine_isHighCapacity (s : State) : (s.configureLine).isHighCapacity = s.isHighCapacity := rfl
@[simp] theorem State.configureLine_phase (s : State) : (s.configureLine).phase = s.phase := rfl
@[simp] theorem State.configureLine_firstCmdPending (s : State) : (s.configureLine).firstCmdPending = s.firstCmdPending := rfl
@[simp] theorem State.configureLine_negAttempts (s : State) : (s.configureLine).negAttempts = s.negAttempts := rfl
@[simp] theorem State.configureLine_ocrAttempts (s : State) : (s.configureLine).ocrAttempts = s.ocrAttempts := rfl
@[simp] theorem State.configureLine_tokenTries (s : State) : (s.configureLine).tokenTries = s.tokenTries := rfl
@[simp] theorem State.configureLine_busyTries (s : State) : (s.configureLine).busyTries = s.busyTries := rfl
@[simp] theorem State.configureLine_r (s : State) : (s.configureLine).r = s.r := rfl
@[simp] theorem State.configureLine_f (s : State) : (s.configureLine).f = s.f := rfl
@[simp] theorem State.configureLine_outcome (s : State) : (s.configureLine).outcome = s.outcome := rfl
@[simp] theorem State.configureLine_cause (s : State) : (s.configureLine).cause = s.cause := rfl
@[simp] theorem State.configureLine_csLevel (s : State) : (s.configureLine).csLevel = s.csLevel := rfl
@[simp] theorem State.configureLine_clkCfg (s : State) : (s.configureLine).clkCfg = s.clkCfg := rfl
@[simp] theorem State.configureLine_pos (s : State) : (s.configureLine).pos = s.pos := rfl
@[simp] theorem State.configureLine_result (s : State) : (s.configureLine).result = s.result := rfl
@[simp] theorem State.configureLine_shape (s : State) : (s.configureLine).shape = s.shape := rfl
@[simp] theorem State.configureLine_params (s : State) : (s.configureLine).params = s.params := rfl
@[simp] theorem State.configureLine_env (s : State) : (s.configureLine).env = s.envReturned := rfl
@[simp] theorem State.configureLine_rxCount (s : State) : (s.configureLine).rxCount = s.rxCount := rfl
@[simp] theorem State.configureLine_host (s : State) : (s.configureLine).host = s.host := rfl
@[simp] theorem State.configureLine_returned (s : State) : (s.configureLine).returned = s.returned := rfl
@[simp] theorem State.configureLine_trace (s : State) : (s.configureLine).trace = s.trace ++ [.cfgOut s.chipSelect] := rfl

/-! `CS(level)`. -/

@[simp] theorem State.driveCs_chipSelect (s : State) (l : CsLevel) : (s.driveCs l).chipSelect = s.chipSelect := rfl
@[simp] theorem State.driveCs_busHandle (s : State) (l : CsLevel) : (s.driveCs l).busHandle = s.busHandle := rfl
@[simp] theorem State.driveCs_timedOut (s : State) (l : CsLevel) : (s.driveCs l).timedOut = s.timedOut := rfl
@[simp] theorem State.driveCs_faulted (s : State) (l : CsLevel) : (s.driveCs l).faulted = s.faulted := rfl
@[simp] theorem State.driveCs_isV2 (s : State) (l : CsLevel) : (s.driveCs l).isV2 = s.isV2 := rfl
@[simp] theorem State.driveCs_isHighCapacity (s : State) (l : CsLevel) : (s.driveCs l).isHighCapacity = s.isHighCapacity := rfl
@[simp] theorem State.driveCs_phase (s : State) (l : CsLevel) : (s.driveCs l).phase = s.phase := rfl
@[simp] theorem State.driveCs_firstCmdPending (s : State) (l : CsLevel) : (s.driveCs l).firstCmdPending = s.firstCmdPending := rfl
@[simp] theorem State.driveCs_negAttempts (s : State) (l : CsLevel) : (s.driveCs l).negAttempts = s.negAttempts := rfl
@[simp] theorem State.driveCs_ocrAttempts (s : State) (l : CsLevel) : (s.driveCs l).ocrAttempts = s.ocrAttempts := rfl
@[simp] theorem State.driveCs_tokenTries (s : State) (l : CsLevel) : (s.driveCs l).tokenTries = s.tokenTries := rfl
@[simp] theorem State.driveCs_busyTries (s : State) (l : CsLevel) : (s.driveCs l).busyTries = s.busyTries := rfl
@[simp] theorem State.driveCs_r (s : State) (l : CsLevel) : (s.driveCs l).r = s.r := rfl
@[simp] theorem State.driveCs_f (s : State) (l : CsLevel) : (s.driveCs l).f = s.f := rfl
@[simp] theorem State.driveCs_outcome (s : State) (l : CsLevel) : (s.driveCs l).outcome = s.outcome := rfl
@[simp] theorem State.driveCs_cause (s : State) (l : CsLevel) : (s.driveCs l).cause = s.cause := rfl
@[simp] theorem State.driveCs_csLevel (s : State) (l : CsLevel) : (s.driveCs l).csLevel = l := rfl
@[simp] theorem State.driveCs_clkCfg (s : State) (l : CsLevel) : (s.driveCs l).clkCfg = s.clkCfg := rfl
@[simp] theorem State.driveCs_pos (s : State) (l : CsLevel) : (s.driveCs l).pos = s.pos := rfl
@[simp] theorem State.driveCs_result (s : State) (l : CsLevel) : (s.driveCs l).result = s.result := rfl
@[simp] theorem State.driveCs_shape (s : State) (l : CsLevel) : (s.driveCs l).shape = s.shape := rfl
@[simp] theorem State.driveCs_params (s : State) (l : CsLevel) : (s.driveCs l).params = s.params := rfl
@[simp] theorem State.driveCs_env (s : State) (l : CsLevel) : (s.driveCs l).env = s.envReturned := rfl
@[simp] theorem State.driveCs_rxCount (s : State) (l : CsLevel) : (s.driveCs l).rxCount = s.rxCount := rfl
@[simp] theorem State.driveCs_host (s : State) (l : CsLevel) : (s.driveCs l).host = s.host := rfl
@[simp] theorem State.driveCs_returned (s : State) (l : CsLevel) : (s.driveCs l).returned = s.returned := rfl
@[simp] theorem State.driveCs_trace (s : State) (l : CsLevel) : (s.driveCs l).trace = s.trace ++ [.cs s.chipSelect l] := rfl

/-! `XCHG`. -/

@[simp] theorem State.exchangeByte_chipSelect (s : State) (b : Byte) : (s.exchangeByte b).chipSelect = s.chipSelect := rfl
@[simp] theorem State.exchangeByte_busHandle (s : State) (b : Byte) : (s.exchangeByte b).busHandle = s.busHandle := rfl
@[simp] theorem State.exchangeByte_timedOut (s : State) (b : Byte) : (s.exchangeByte b).timedOut = s.timedOut := rfl
@[simp] theorem State.exchangeByte_faulted (s : State) (b : Byte) : (s.exchangeByte b).faulted = s.faulted := rfl
@[simp] theorem State.exchangeByte_isV2 (s : State) (b : Byte) : (s.exchangeByte b).isV2 = s.isV2 := rfl
@[simp] theorem State.exchangeByte_isHighCapacity (s : State) (b : Byte) : (s.exchangeByte b).isHighCapacity = s.isHighCapacity := rfl
@[simp] theorem State.exchangeByte_phase (s : State) (b : Byte) : (s.exchangeByte b).phase = s.phase := rfl
@[simp] theorem State.exchangeByte_firstCmdPending (s : State) (b : Byte) : (s.exchangeByte b).firstCmdPending = s.firstCmdPending := rfl
@[simp] theorem State.exchangeByte_negAttempts (s : State) (b : Byte) : (s.exchangeByte b).negAttempts = s.negAttempts := rfl
@[simp] theorem State.exchangeByte_ocrAttempts (s : State) (b : Byte) : (s.exchangeByte b).ocrAttempts = s.ocrAttempts := rfl
@[simp] theorem State.exchangeByte_tokenTries (s : State) (b : Byte) : (s.exchangeByte b).tokenTries = s.tokenTries := rfl
@[simp] theorem State.exchangeByte_busyTries (s : State) (b : Byte) : (s.exchangeByte b).busyTries = s.busyTries := rfl
@[simp] theorem State.exchangeByte_r (s : State) (b : Byte) : (s.exchangeByte b).r = s.r := rfl
@[simp] theorem State.exchangeByte_f (s : State) (b : Byte) : (s.exchangeByte b).f = s.f := rfl
@[simp] theorem State.exchangeByte_outcome (s : State) (b : Byte) : (s.exchangeByte b).outcome = s.outcome := rfl
@[simp] theorem State.exchangeByte_cause (s : State) (b : Byte) : (s.exchangeByte b).cause = s.cause := rfl
@[simp] theorem State.exchangeByte_csLevel (s : State) (b : Byte) : (s.exchangeByte b).csLevel = s.csLevel := rfl
@[simp] theorem State.exchangeByte_clkCfg (s : State) (b : Byte) : (s.exchangeByte b).clkCfg = s.clkCfg := rfl
@[simp] theorem State.exchangeByte_pos (s : State) (b : Byte) : (s.exchangeByte b).pos = s.pos := rfl
@[simp] theorem State.exchangeByte_result (s : State) (b : Byte) : (s.exchangeByte b).result = s.result := rfl
@[simp] theorem State.exchangeByte_shape (s : State) (b : Byte) : (s.exchangeByte b).shape = s.shape := rfl
@[simp] theorem State.exchangeByte_params (s : State) (b : Byte) : (s.exchangeByte b).params = s.params := rfl
@[simp] theorem State.exchangeByte_env (s : State) (b : Byte) : (s.exchangeByte b).env = s.envRest := rfl
@[simp] theorem State.exchangeByte_rxCount (s : State) (b : Byte) : (s.exchangeByte b).rxCount = s.rxCount + 1 := rfl
@[simp] theorem State.exchangeByte_host (s : State) (b : Byte) : (s.exchangeByte b).host = s.host := rfl
@[simp] theorem State.exchangeByte_returned (s : State) (b : Byte) : (s.exchangeByte b).returned = s.returned := rfl
@[simp] theorem State.exchangeByte_trace (s : State) (b : Byte) : (s.exchangeByte b).trace = s.trace ++ [.xchg s.busHandle b s.rxByte] := rfl

/-! Entering the failure state. -/

@[simp] theorem State.raise_chipSelect (s : State) (c : Cause) : (s.raise c).chipSelect = s.chipSelect := rfl
@[simp] theorem State.raise_busHandle (s : State) (c : Cause) : (s.raise c).busHandle = s.busHandle := rfl
@[simp] theorem State.raise_timedOut (s : State) (c : Cause) : (s.raise c).timedOut = s.timedOut := rfl
@[simp] theorem State.raise_faulted (s : State) (c : Cause) : (s.raise c).faulted = s.faulted := rfl
@[simp] theorem State.raise_isV2 (s : State) (c : Cause) : (s.raise c).isV2 = s.isV2 := rfl
@[simp] theorem State.raise_isHighCapacity (s : State) (c : Cause) : (s.raise c).isHighCapacity = s.isHighCapacity := rfl
@[simp] theorem State.raise_phase (s : State) (c : Cause) : (s.raise c).phase = .faulted := rfl
@[simp] theorem State.raise_firstCmdPending (s : State) (c : Cause) : (s.raise c).firstCmdPending = s.firstCmdPending := rfl
@[simp] theorem State.raise_negAttempts (s : State) (c : Cause) : (s.raise c).negAttempts = s.negAttempts := rfl
@[simp] theorem State.raise_ocrAttempts (s : State) (c : Cause) : (s.raise c).ocrAttempts = s.ocrAttempts := rfl
@[simp] theorem State.raise_tokenTries (s : State) (c : Cause) : (s.raise c).tokenTries = s.tokenTries := rfl
@[simp] theorem State.raise_busyTries (s : State) (c : Cause) : (s.raise c).busyTries = s.busyTries := rfl
@[simp] theorem State.raise_r (s : State) (c : Cause) : (s.raise c).r = s.r := rfl
@[simp] theorem State.raise_f (s : State) (c : Cause) : (s.raise c).f = s.f := rfl
@[simp] theorem State.raise_outcome (s : State) (c : Cause) : (s.raise c).outcome = s.outcome := rfl
@[simp] theorem State.raise_cause (s : State) (c : Cause) : (s.raise c).cause = s.cause := rfl
@[simp] theorem State.raise_csLevel (s : State) (c : Cause) : (s.raise c).csLevel = s.csLevel := rfl
@[simp] theorem State.raise_clkCfg (s : State) (c : Cause) : (s.raise c).clkCfg = s.clkCfg := rfl
@[simp] theorem State.raise_pos (s : State) (c : Cause) : (s.raise c).pos = .faultRelease c := rfl
@[simp] theorem State.raise_result (s : State) (c : Cause) : (s.raise c).result = s.result := rfl
@[simp] theorem State.raise_shape (s : State) (c : Cause) : (s.raise c).shape = s.shape := rfl
@[simp] theorem State.raise_params (s : State) (c : Cause) : (s.raise c).params = s.params := rfl
@[simp] theorem State.raise_env (s : State) (c : Cause) : (s.raise c).env = s.env := rfl
@[simp] theorem State.raise_rxCount (s : State) (c : Cause) : (s.raise c).rxCount = s.rxCount := rfl
@[simp] theorem State.raise_host (s : State) (c : Cause) : (s.raise c).host = s.host := rfl
@[simp] theorem State.raise_returned (s : State) (c : Cause) : (s.raise c).returned = s.returned := rfl
@[simp] theorem State.raise_trace (s : State) (c : Cause) : (s.raise c).trace = s.trace := rfl

/-! The terminal success. -/

@[simp] theorem State.finish_chipSelect (s : State) : (s.finish).chipSelect = s.chipSelect := rfl
@[simp] theorem State.finish_busHandle (s : State) : (s.finish).busHandle = s.busHandle := rfl
@[simp] theorem State.finish_timedOut (s : State) : (s.finish).timedOut = s.timedOut := rfl
@[simp] theorem State.finish_faulted (s : State) : (s.finish).faulted = s.faulted := rfl
@[simp] theorem State.finish_isV2 (s : State) : (s.finish).isV2 = s.isV2 := rfl
@[simp] theorem State.finish_isHighCapacity (s : State) : (s.finish).isHighCapacity = s.isHighCapacity := rfl
@[simp] theorem State.finish_phase (s : State) : (s.finish).phase = .ready := rfl
@[simp] theorem State.finish_firstCmdPending (s : State) : (s.finish).firstCmdPending = s.firstCmdPending := rfl
@[simp] theorem State.finish_negAttempts (s : State) : (s.finish).negAttempts = s.negAttempts := rfl
@[simp] theorem State.finish_ocrAttempts (s : State) : (s.finish).ocrAttempts = s.ocrAttempts := rfl
@[simp] theorem State.finish_tokenTries (s : State) : (s.finish).tokenTries = s.tokenTries := rfl
@[simp] theorem State.finish_busyTries (s : State) : (s.finish).busyTries = s.busyTries := rfl
@[simp] theorem State.finish_r (s : State) : (s.finish).r = s.r := rfl
@[simp] theorem State.finish_f (s : State) : (s.finish).f = s.f := rfl
@[simp] theorem State.finish_outcome (s : State) : (s.finish).outcome = .success := rfl
@[simp] theorem State.finish_cause (s : State) : (s.finish).cause = s.cause := rfl
@[simp] theorem State.finish_csLevel (s : State) : (s.finish).csLevel = s.csLevel := rfl
@[simp] theorem State.finish_clkCfg (s : State) : (s.finish).clkCfg = s.clkCfg := rfl
@[simp] theorem State.finish_pos (s : State) : (s.finish).pos = .done := rfl
@[simp] theorem State.finish_result (s : State) : (s.finish).result = s.result := rfl
@[simp] theorem State.finish_shape (s : State) : (s.finish).shape = s.shape := rfl
@[simp] theorem State.finish_params (s : State) : (s.finish).params = s.params := rfl
@[simp] theorem State.finish_env (s : State) : (s.finish).env = s.env := rfl
@[simp] theorem State.finish_rxCount (s : State) : (s.finish).rxCount = s.rxCount := rfl
@[simp] theorem State.finish_host (s : State) : (s.finish).host = s.host := rfl
@[simp] theorem State.finish_returned (s : State) : (s.finish).returned = s.returned := rfl
@[simp] theorem State.finish_trace (s : State) : (s.finish).trace = s.trace := rfl

/-! `DONE`. -/

@[simp] theorem State.finishRun_chipSelect (s : State) : (s.finishRun).chipSelect = s.chipSelect := rfl
@[simp] theorem State.finishRun_busHandle (s : State) : (s.finishRun).busHandle = s.busHandle := rfl
@[simp] theorem State.finishRun_timedOut (s : State) : (s.finishRun).timedOut = s.timedOut := rfl
@[simp] theorem State.finishRun_faulted (s : State) : (s.finishRun).faulted = s.faulted := rfl
@[simp] theorem State.finishRun_isV2 (s : State) : (s.finishRun).isV2 = s.isV2 := rfl
@[simp] theorem State.finishRun_isHighCapacity (s : State) : (s.finishRun).isHighCapacity = s.isHighCapacity := rfl
@[simp] theorem State.finishRun_phase (s : State) : (s.finishRun).phase = s.phase := rfl
@[simp] theorem State.finishRun_firstCmdPending (s : State) : (s.finishRun).firstCmdPending = s.firstCmdPending := rfl
@[simp] theorem State.finishRun_negAttempts (s : State) : (s.finishRun).negAttempts = s.negAttempts := rfl
@[simp] theorem State.finishRun_ocrAttempts (s : State) : (s.finishRun).ocrAttempts = s.ocrAttempts := rfl
@[simp] theorem State.finishRun_tokenTries (s : State) : (s.finishRun).tokenTries = s.tokenTries := rfl
@[simp] theorem State.finishRun_busyTries (s : State) : (s.finishRun).busyTries = s.busyTries := rfl
@[simp] theorem State.finishRun_r (s : State) : (s.finishRun).r = s.r := rfl
@[simp] theorem State.finishRun_f (s : State) : (s.finishRun).f = s.f := rfl
@[simp] theorem State.finishRun_outcome (s : State) : (s.finishRun).outcome = s.outcome := rfl
@[simp] theorem State.finishRun_cause (s : State) : (s.finishRun).cause = s.cause := rfl
@[simp] theorem State.finishRun_csLevel (s : State) : (s.finishRun).csLevel = s.csLevel := rfl
@[simp] theorem State.finishRun_clkCfg (s : State) : (s.finishRun).clkCfg = s.clkCfg := rfl
@[simp] theorem State.finishRun_pos (s : State) : (s.finishRun).pos = .rest := rfl
@[simp] theorem State.finishRun_result (s : State) : (s.finishRun).result = s.result := rfl
@[simp] theorem State.finishRun_shape (s : State) : (s.finishRun).shape = s.shape := rfl
@[simp] theorem State.finishRun_params (s : State) : (s.finishRun).params = s.params := rfl
@[simp] theorem State.finishRun_env (s : State) : (s.finishRun).env = s.env := rfl
@[simp] theorem State.finishRun_rxCount (s : State) : (s.finishRun).rxCount = s.rxCount := rfl
@[simp] theorem State.finishRun_host (s : State) : (s.finishRun).host = s.host := rfl
@[simp] theorem State.finishRun_returned (s : State) : (s.finishRun).returned = s.returned := rfl
@[simp] theorem State.finishRun_trace (s : State) : (s.finishRun).trace = s.trace ++ [.done s.outcome] := rfl

/-! The release that ends an exchange. -/

@[simp] theorem State.closeExchange_chipSelect (s : State) (res : ReadResult) : (s.closeExchange res).chipSelect = s.chipSelect := rfl
@[simp] theorem State.closeExchange_busHandle (s : State) (res : ReadResult) : (s.closeExchange res).busHandle = s.busHandle := rfl
@[simp] theorem State.closeExchange_timedOut (s : State) (res : ReadResult) : (s.closeExchange res).timedOut = s.timedOut := rfl
@[simp] theorem State.closeExchange_faulted (s : State) (res : ReadResult) : (s.closeExchange res).faulted = s.faulted := rfl
@[simp] theorem State.closeExchange_isV2 (s : State) (res : ReadResult) : (s.closeExchange res).isV2 = s.isV2 := rfl
@[simp] theorem State.closeExchange_isHighCapacity (s : State) (res : ReadResult) : (s.closeExchange res).isHighCapacity = s.isHighCapacity := rfl
@[simp] theorem State.closeExchange_phase (s : State) (res : ReadResult) : (s.closeExchange res).phase = s.phase := rfl
@[simp] theorem State.closeExchange_firstCmdPending (s : State) (res : ReadResult) : (s.closeExchange res).firstCmdPending = s.firstCmdPending := rfl
@[simp] theorem State.closeExchange_negAttempts (s : State) (res : ReadResult) : (s.closeExchange res).negAttempts = s.negAttempts := rfl
@[simp] theorem State.closeExchange_ocrAttempts (s : State) (res : ReadResult) : (s.closeExchange res).ocrAttempts = s.ocrAttempts := rfl
@[simp] theorem State.closeExchange_tokenTries (s : State) (res : ReadResult) : (s.closeExchange res).tokenTries = s.tokenTries := rfl
@[simp] theorem State.closeExchange_busyTries (s : State) (res : ReadResult) : (s.closeExchange res).busyTries = s.busyTries := rfl
@[simp] theorem State.closeExchange_r (s : State) (res : ReadResult) : (s.closeExchange res).r = s.r := rfl
@[simp] theorem State.closeExchange_f (s : State) (res : ReadResult) : (s.closeExchange res).f = s.f := rfl
@[simp] theorem State.closeExchange_outcome (s : State) (res : ReadResult) : (s.closeExchange res).outcome = s.outcome := rfl
@[simp] theorem State.closeExchange_cause (s : State) (res : ReadResult) : (s.closeExchange res).cause = s.cause := rfl
@[simp] theorem State.closeExchange_csLevel (s : State) (res : ReadResult) : (s.closeExchange res).csLevel = .high := rfl
@[simp] theorem State.closeExchange_clkCfg (s : State) (res : ReadResult) : (s.closeExchange res).clkCfg = s.clkCfg := rfl
@[simp] theorem State.closeExchange_pos (s : State) (res : ReadResult) : (s.closeExchange res).pos = s.pos := rfl
@[simp] theorem State.closeExchange_result (s : State) (res : ReadResult) : (s.closeExchange res).result = some res := rfl
@[simp] theorem State.closeExchange_shape (s : State) (res : ReadResult) : (s.closeExchange res).shape = s.shape := rfl
@[simp] theorem State.closeExchange_params (s : State) (res : ReadResult) : (s.closeExchange res).params = s.params := rfl
@[simp] theorem State.closeExchange_env (s : State) (res : ReadResult) : (s.closeExchange res).env = s.envReturned := rfl
@[simp] theorem State.closeExchange_rxCount (s : State) (res : ReadResult) : (s.closeExchange res).rxCount = s.rxCount := rfl
@[simp] theorem State.closeExchange_host (s : State) (res : ReadResult) : (s.closeExchange res).host = s.host := rfl
@[simp] theorem State.closeExchange_returned (s : State) (res : ReadResult) : (s.closeExchange res).returned = s.returned := rfl
@[simp] theorem State.closeExchange_trace (s : State) (res : ReadResult) : (s.closeExchange res).trace = s.trace ++ [.cs s.chipSelect .high] := rfl

/-! The assertion that opens an exchange. -/

@[simp] theorem State.openExchange_chipSelect (s : State) (i : Instr) (idx : Byte) (arg : Arg) : (s.openExchange i idx arg).chipSelect = s.chipSelect := rfl
@[simp] theorem State.openExchange_busHandle (s : State) (i : Instr) (idx : Byte) (arg : Arg) : (s.openExchange i idx arg).busHandle = s.busHandle := rfl
@[simp] theorem State.openExchange_timedOut (s : State) (i : Instr) (idx : Byte) (arg : Arg) : (s.openExchange i idx arg).timedOut = s.timedOut := rfl
@[simp] theorem State.openExchange_faulted (s : State) (i : Instr) (idx : Byte) (arg : Arg) : (s.openExchange i idx arg).faulted = s.faulted := rfl
@[simp] theorem State.openExchange_isV2 (s : State) (i : Instr) (idx : Byte) (arg : Arg) : (s.openExchange i idx arg).isV2 = s.isV2 := rfl
@[simp] theorem State.openExchange_isHighCapacity (s : State) (i : Instr) (idx : Byte) (arg : Arg) : (s.openExchange i idx arg).isHighCapacity = s.isHighCapacity := rfl
@[simp] theorem State.openExchange_phase (s : State) (i : Instr) (idx : Byte) (arg : Arg) : (s.openExchange i idx arg).phase = s.phase := rfl
@[simp] theorem State.openExchange_firstCmdPending (s : State) (i : Instr) (idx : Byte) (arg : Arg) : (s.openExchange i idx arg).firstCmdPending = s.firstCmdPending := rfl
@[simp] theorem State.openExchange_negAttempts (s : State) (i : Instr) (idx : Byte) (arg : Arg) : (s.openExchange i idx arg).negAttempts = s.negAttempts := rfl
@[simp] theorem State.openExchange_ocrAttempts (s : State) (i : Instr) (idx : Byte) (arg : Arg) : (s.openExchange i idx arg).ocrAttempts = s.ocrAttempts := rfl
@[simp] theorem State.openExchange_tokenTries (s : State) (i : Instr) (idx : Byte) (arg : Arg) : (s.openExchange i idx arg).tokenTries = s.tokenTries := rfl
@[simp] theorem State.openExchange_busyTries (s : State) (i : Instr) (idx : Byte) (arg : Arg) : (s.openExchange i idx arg).busyTries = s.busyTries := rfl
@[simp] theorem State.openExchange_r (s : State) (i : Instr) (idx : Byte) (arg : Arg) : (s.openExchange i idx arg).r = s.r := rfl
@[simp] theorem State.openExchange_f (s : State) (i : Instr) (idx : Byte) (arg : Arg) : (s.openExchange i idx arg).f = some (frame s.params.dummyCrc idx arg s.firstCmdPending) := rfl
@[simp] theorem State.openExchange_outcome (s : State) (i : Instr) (idx : Byte) (arg : Arg) : (s.openExchange i idx arg).outcome = s.outcome := rfl
@[simp] theorem State.openExchange_cause (s : State) (i : Instr) (idx : Byte) (arg : Arg) : (s.openExchange i idx arg).cause = s.cause := rfl
@[simp] theorem State.openExchange_csLevel (s : State) (i : Instr) (idx : Byte) (arg : Arg) : (s.openExchange i idx arg).csLevel = .low := rfl
@[simp] theorem State.openExchange_clkCfg (s : State) (i : Instr) (idx : Byte) (arg : Arg) : (s.openExchange i idx arg).clkCfg = s.clkCfg := rfl
@[simp] theorem State.openExchange_pos (s : State) (i : Instr) (idx : Byte) (arg : Arg) : (s.openExchange i idx arg).pos = .exch i (.frame 0) := rfl
@[simp] theorem State.openExchange_result (s : State) (i : Instr) (idx : Byte) (arg : Arg) : (s.openExchange i idx arg).result = s.result := rfl
@[simp] theorem State.openExchange_shape (s : State) (i : Instr) (idx : Byte) (arg : Arg) : (s.openExchange i idx arg).shape = s.shape := rfl
@[simp] theorem State.openExchange_params (s : State) (i : Instr) (idx : Byte) (arg : Arg) : (s.openExchange i idx arg).params = s.params := rfl
@[simp] theorem State.openExchange_env (s : State) (i : Instr) (idx : Byte) (arg : Arg) : (s.openExchange i idx arg).env = s.envReturned := rfl
@[simp] theorem State.openExchange_rxCount (s : State) (i : Instr) (idx : Byte) (arg : Arg) : (s.openExchange i idx arg).rxCount = s.rxCount := rfl
@[simp] theorem State.openExchange_host (s : State) (i : Instr) (idx : Byte) (arg : Arg) : (s.openExchange i idx arg).host = s.host := rfl
@[simp] theorem State.openExchange_returned (s : State) (i : Instr) (idx : Byte) (arg : Arg) : (s.openExchange i idx arg).returned = s.returned := rfl
@[simp] theorem State.openExchange_trace (s : State) (i : Instr) (idx : Byte) (arg : Arg) : (s.openExchange i idx arg).trace = s.trace ++ [.cs s.chipSelect .low] := rfl

end Sys2Proof.Machine
end

