-- ==== Sys2Proof/Laws/Ops.lean ====
section
/-! SUPPORT. What each shared operation can do, said once: the collaborator call, the environment's script, the buffers,
and the events of one command exchange. -/

namespace Sys2Proof.Machine

/-- A collaborator call answers a next state exactly where the environment lets it return. -/
theorem perform_eq_next_iff (s t u : State) : s.perform t = .next u ↔ s.envOk = true ∧ u = t := by
  unfold State.perform State.envOk
  split <;> simp [eq_comm]

theorem perform_of_envOk {s : State} (h : s.envOk = true) (t : State) : s.perform t = .next t :=
  (perform_eq_next_iff s t t).2 ⟨h, rfl⟩

/-- A collaborator call is stuck exactly where the script says that it never returns (R258). -/
theorem perform_eq_fault_iff (s t : State) (e : Fault) : s.perform t = .fault e ↔ ∃ rest, s.env = .hang :: rest := by
  cases e
  unfold State.perform
  split <;> simp_all

/-- The scripted byte is the one received (R51). -/
theorem rxByte_of_reply {s : State} {b : Byte} {rest : List EnvAct} (h : s.env = .reply b :: rest) :
    s.rxByte = b := by simp [State.rxByte, h]

/-- An exchange takes its byte off the script. -/
theorem envRest_of_reply {s : State} {b : Byte} {rest : List EnvAct} (h : s.env = .reply b :: rest) :
    s.envRest = rest := by simp [State.envRest, h]

/-- A call that receives no byte leaves the received bytes to come. -/
theorem envReturned_of_reply {s : State} {b : Byte} {rest : List EnvAct} (h : s.env = .reply b :: rest) :
    s.envReturned = s.env := by simp [State.envReturned, h]

/-- A call of either kind takes its entry off the script. -/
theorem env_of_returns {s : State} {rest : List EnvAct} (h : s.env = .returns :: rest) :
    s.envReturned = rest ∧ s.envRest = rest := by simp [State.envReturned, State.envRest, h]

/-- A script of received bytes is the same after a call that receives none. -/
theorem envReturned_of_replies {s : State} {bs : List Byte} (h : s.env = bs.map .reply) : s.envReturned = s.env := by
  cases bs <;> simp [State.envReturned, h]

/-- A written flag reads as its value (R162, R165). -/
theorem version_of_some {s : State} {v : Bool} (h : s.isV2 = some v) : s.version = v := by simp [State.version, h]

/-- A written flag reads as its value (R169, R205). -/
theorem hasTimedOut_of_some {s : State} {v : Bool} (h : s.timedOut = some v) : s.hasTimedOut = v := by
  simp [State.hasTimedOut, h]

/-- A written counter reads as its value (R121). -/
theorem tokenCount_of_some {s : State} {n : Nat} (h : s.tokenTries = some n) : s.tokenCount = n := by
  simp [State.tokenCount, h]

@[simp] theorem put_r0 (r : Response) (b : Byte) : (r.put 0 b).r0 = some b := rfl

@[simp] theorem put_zero_r1 (r : Response) (b : Byte) : (r.put 0 b).r1 = r.r1 := rfl

/-- The bytes after the token leave the status byte alone. -/
@[simp] theorem put_succ_r0 (r : Response) (k : Fin 4) (b : Byte) : (r.put k.succ b).r0 = r.r0 := by
  fin_cases k <;> rfl

/-- Storing any byte after the token leaves `r[1]` written or writes it. -/
theorem put_succ_r1 (r : Response) (k : Fin 4) (b : Byte) :
    (r.put k.succ b).r1 = if k = 0 then some b else r.r1 := by
  fin_cases k <;> rfl

/-- After a byte behind the token the read goes on to the next such byte or to the release, and nowhere else. -/
theorem afterExtra_cases (sh : Shape) (k : Fin 4) :
    (∃ h : k.val + 1 < 4, afterExtra sh k = .extra ⟨k.val + 1, h⟩ ∧ k.val + 2 < shapeLen sh) ∨
    (afterExtra sh k = .release .ok ∧ shapeLen sh ≤ k.val + 2) := by
  unfold afterExtra
  split
  · split
    · exact .inl ⟨‹_›, rfl, ‹_›⟩
    · exact .inr ⟨rfl, by omega⟩
  · exact .inr ⟨rfl, by cases sh <;> (simp only [shapeLen]; omega)⟩

@[simp] theorem afterExtra_ne_frame (sh : Shape) (k : Fin 4) (j : Fin 6) : afterExtra sh k ≠ .frame j := by
  rcases afterExtra_cases sh k with ⟨h, e, _⟩ | ⟨e, _⟩ <;> simp [e]

@[simp] theorem afterExtra_ne_token (sh : Shape) (k : Fin 4) : afterExtra sh k ≠ .token := by
  rcases afterExtra_cases sh k with ⟨h, e, _⟩ | ⟨e, _⟩ <;> simp [e]

/-- What one event of a command exchange does, where it answers a next state (R127). -/
theorem exchangeEvent_next {i : Instr} {idx : Byte} {arg : Arg} {sh : Shape} {close : ReadResult → State → State}
    {s t : State} (h : exchangeEvent i idx arg sh close s = .next t) :
    s.envOk = true ∧
    ((∃ j k, s.pos = .exch j (.frame k) ∧ t = s.frameByteSent i k) ∨
     (∃ j, s.pos = .exch j .token ∧ s.tokenCount = s.params.tokenRetries ∧
       t = close .timeoutToken (s.closeExchange .timeoutToken)) ∨
     (∃ j, s.pos = .exch j .token ∧ s.tokenCount ≠ s.params.tokenRetries ∧ t = s.tokenRead i sh) ∨
     (∃ j k, s.pos = .exch j (.extra k) ∧ t = s.extraRead i sh k) ∨
     (∃ j, s.pos = .exch j .drain ∧ s.busyCount = s.params.busyRetries ∧ t = s.dummySent i false) ∨
     (∃ j, s.pos = .exch j .drain ∧ s.busyCount ≠ s.params.busyRetries ∧ t = s.drainRead i) ∨
     (∃ j c, s.pos = .exch j (.dummy c) ∧ t = s.dummySent i c) ∨
     (∃ j res, s.pos = .exch j (.release res) ∧ t = close res (s.closeExchange res)) ∨
     ((∀ j x, s.pos ≠ .exch j x) ∧ t = s.openExchange i idx arg)) := by
  unfold exchangeEvent at h
  cases hp : s.pos with
  | exch j x =>
    cases x with
    | frame k => simp_all [perform_eq_next_iff]
    | token => simp only [hp] at h; split at h <;> simp_all [perform_eq_next_iff]
    | extra k => simp_all [perform_eq_next_iff]
    | drain => simp only [hp] at h; split at h <;> simp_all [perform_eq_next_iff]
    | dummy c => cases c <;> simp_all [perform_eq_next_iff]
    | release res => simp_all [perform_eq_next_iff]
  | _ => simp_all [perform_eq_next_iff]

end Sys2Proof.Machine
end

