-- ==== Sys2Proof/Laws/PerInstr.lean ====
section
/-! SUPPORT. What holds of every instruction as syntax, one lemma for each constructor: its index, the first byte of its
frame, and the shape it is exchanged with (R7, R71, R79). -/

namespace Sys2Proof.Laws.IndexAndShape

/-- Under a valid configuration a well-formed instruction's index has 6 bits and the first byte of its frame is 64 more;
its response has 1, 2 or 5 bytes, and only the generic frame's shape depends on the selector. -/
def Statement (i : Instr) : Prop :=
  (∀ p : Params, p.valid = true → i.wf p = true →
    i.index p < 64 ∧ ∀ first, (encode p first i).b0.toNat = 64 + (i.index p).toNat) ∧
  (∀ sh : Shape, Machine.shapeLen (Machine.instrShape sh i) ∈ [1, 2, 5]) ∧
  ((∀ idx arg, i ≠ .cmd idx arg) → ∀ sh : Shape, Machine.instrShape sh i = Machine.instrShape .s1 i)

/-- A 6-bit index and the framing bits do not overlap. -/
theorem frame_first_byte (idx : Byte) (h : idx < 64) : (0x40#8 ||| (idx &&& 0x3F#8)).toNat = 64 + idx.toNat := by
  revert idx
  decide

theorem firstByte_of_index {p : Params} {i : Instr} (h : i.index p < 64) :
    i.index p < 64 ∧ ∀ first, (encode p first i).b0.toNat = 64 + (i.index p).toNat :=
  ⟨h, fun _ => frame_first_byte _ h⟩

theorem cmdReset : Statement .cmdReset :=
  ⟨fun p hv _ => firstByte_of_index (by simp_all [Params.valid, isIndex, Instr.index]),
    fun sh => by cases sh <;> simp [Machine.shapeLen, Machine.instrShape], fun _ _ => rfl⟩

theorem cmdIfCond : Statement .cmdIfCond :=
  ⟨fun p hv _ => firstByte_of_index (by simp_all [Params.valid, isIndex, Instr.index]),
    fun sh => by cases sh <;> simp [Machine.shapeLen, Machine.instrShape], fun _ _ => rfl⟩

theorem cmdApp : Statement .cmdApp :=
  ⟨fun p hv _ => firstByte_of_index (by simp_all [Params.valid, isIndex, Instr.index]),
    fun sh => by cases sh <;> simp [Machine.shapeLen, Machine.instrShape], fun _ _ => rfl⟩

theorem acmdOpCond (arg : Arg) : Statement (.acmdOpCond arg) :=
  ⟨fun p hv _ => firstByte_of_index (by simp_all [Params.valid, isIndex, Instr.index]),
    fun sh => by cases sh <;> simp [Machine.shapeLen, Machine.instrShape], fun _ _ => rfl⟩

theorem cmdReadOcr : Statement .cmdReadOcr :=
  ⟨fun p hv _ => firstByte_of_index (by simp_all [Params.valid, isIndex, Instr.index]),
    fun sh => by cases sh <;> simp [Machine.shapeLen, Machine.instrShape], fun _ _ => rfl⟩

theorem cmd (idx : Byte) (arg : Arg) : Statement (.cmd idx arg) :=
  ⟨fun p _ hw => firstByte_of_index (by simp_all [Instr.wf, isIndex, Instr.index]),
    fun sh => by cases sh <;> simp [Machine.shapeLen, Machine.instrShape], fun h _ => absurd rfl (h idx arg)⟩

end Sys2Proof.Laws.IndexAndShape
end

