-- ==== Sys2Proof/Laws/Step.lean ====
section
/-! SUPPORT. What `exec` and `step` can do, said once. -/

namespace Sys2Proof.Machine

/-- What the issuing rule of a command does with its result. -/
def closeOf : Instr → ReadResult → State → State
  | .cmdReset => closeReset
  | .cmdIfCond => closeIfCond
  | .cmdApp => closeApp
  | .acmdOpCond _ => closeOpCond
  | .cmdReadOcr => closeReadOcr
  | .cmd _ _ => closeGeneric

/-- Every meaning is an event of its own exchange, with the operands of R79. -/
theorem exec_eq (i : Instr) (s : State) :
    exec i s = exchangeEvent i (i.index s.params) (i.argument s.params) (instrShape s.shape i) (closeOf i) s := by
  cases i <;> rfl

theorem step_of_valid {s : State} (h : s.params.valid = true) : step s = stepValid s := by simp [step, h]

/-- A step that answers a next state ran under a valid configuration. -/
theorem step_next {s t : State} (h : step s = .next t) : s.params.valid = true ∧ stepValid s = .next t := by
  unfold step at h
  split at h <;> simp_all

/-- What a step can do where it answers a next state, by position. -/
theorem stepValid_next {s t : State} (h : stepValid s = .next t) :
    (s.pos = .rest ∧ hostStep s = .next t) ∨
    (s.envOk = true ∧
      ((s.pos = .cfgClk ∧ t = s.configureClock.goTo .cfgOut) ∨
       (s.pos = .cfgOut ∧ t = s.configureLine.goTo .csFirst) ∨
       (s.pos = .csFirst ∧ t = (s.driveCs .high).goTo (.idleHigh 0)) ∨
       (∃ k, s.pos = .idleHigh k ∧ k < s.params.nIdleHigh ∧
         t = (s.exchangeByte s.params.fill).goTo (.idleHigh (k + 1))) ∨
       (∃ k, s.pos = .idleHigh k ∧ ¬k < s.params.nIdleHigh ∧ t = (s.driveCs .low).goTo (.idleLow 0)) ∨
       (∃ k, s.pos = .idleLow k ∧ k < s.params.nIdleLow ∧
         t = (s.exchangeByte s.params.fill).goTo (.idleLow (k + 1))) ∨
       (∃ k, s.pos = .idleLow k ∧ ¬k < s.params.nIdleLow ∧ t = (s.driveCs .high).goTo (.command .reset)) ∨
       (∃ c cause, s.pos = .command c ∧ issue c s = .stop cause ∧ t = (s.raise cause).faultReleased cause) ∨
       (∃ c, s.pos = .faultRelease c ∧ t = s.faultReleased c) ∨
       (∃ c, s.pos = .faultDummy c ∧ t = s.faultFinished c))) ∨
    (∃ c i u, s.pos = .command c ∧ issue c s = .run i u ∧ exec i u = .next t) ∨
    (∃ i, s.pos = .direct ∧ directInstr s = .ok i ∧ exec i s = .next t) ∨
    (∃ i x, s.pos = .exch i x ∧ exec i s = .next t) ∨
    (s.pos = .done ∧ t = s.finishRun) := by
  unfold stepValid at h
  cases hp : s.pos with
  | idleHigh k => simp only [hp, idleHighStep] at h; split at h <;> simp_all [perform_eq_next_iff]
  | idleLow k => simp only [hp, idleLowStep] at h; split at h <;> simp_all [perform_eq_next_iff]
  | command c =>
    simp only [hp] at h
    split at h <;> simp_all [raiseStep, faultReleaseStep, perform_eq_next_iff, State.envOk]
  | direct => simp only [hp] at h; split at h <;> simp_all
  | done =>
    simp only [hp, doneStep] at h
    injection h with h
    simp [← h]
  | _ =>
    simp_all [cfgClkStep, cfgOutStep, csFirstStep, faultReleaseStep, faultDummyStep, perform_eq_next_iff]

/-- What the host interface can do where it answers a next state (R200 to R206). -/
theorem hostStep_next {s t : State} (h : hostStep s = .next t) :
    (s.host = [] ∧ t = s) ∨
    (∃ cs bus rest, s.host = .construct cs bus :: rest ∧ t = s.newSession cs bus rest) ∨
    (∃ rest, s.host = .callInit :: rest ∧ s.phase = .constructed ∧ t = s.startRun rest) ∨
    (∃ rest, s.host = .callInit :: rest ∧ s.phase = .faulted ∧ t = s.startFaulted rest) ∨
    (∃ a rest v, s.host = .get a :: rest ∧ s.flag a = some v ∧
      t = { s with host := rest, returned := s.returned ++ [(a, v)] }) := by
  unfold hostStep at h
  split at h
  · rename_i hh
    exact .inl ⟨hh, by injection h with h; exact h.symm⟩
  · rename_i cs bus rest hh
    exact .inr (.inl ⟨cs, bus, rest, hh, by injection h with h; exact h.symm⟩)
  · rename_i rest hh
    unfold startStep at h
    split at h
    · rename_i hph
      exact .inr (.inr (.inl ⟨rest, hh, hph, by injection h with h; exact h.symm⟩))
    · rename_i hph
      exact .inr (.inr (.inr (.inl ⟨rest, hh, hph, by injection h with h; exact h.symm⟩)))
    all_goals cases h
  · rename_i a rest hh
    unfold accessorStep at h
    split at h
    · rename_i v hv
      exact .inr (.inr (.inr (.inr ⟨a, rest, v, hh, hv, by injection h with h; exact h.symm⟩)))
    · cases h

/-- A step that answers a next state is the first of the steps that follow. -/
theorem runSteps_succ {s t : State} (h : step s = .next t) (n : Nat) : runSteps (n + 1) s = runSteps n t := by
  simp [runSteps, h]

/-- Steps that reach a state are followed by the steps from it. -/
theorem runSteps_add {m : Nat} {s t : State} (h : runSteps m s = .next t) (n : Nat) :
    runSteps (m + n) s = runSteps n t := by
  induction m generalizing s with
  | zero =>
    injection h with h
    simp [h]
  | succ m ih =>
    rw [Nat.succ_add, runSteps]
    rw [runSteps] at h
    cases hs : step s with
    | next u => exact ih (by simpa [hs] using h)
    | fault e => simp [hs] at h
    | refused r => simp [hs] at h

/-- The host's run of this machine is `runSteps`. -/
theorem core_run_eq (n : Nat) (s : State) : Host.Core.run core n s = runSteps n s := by
  induction n generalizing s with
  | zero => rfl
  | succ n ih =>
    simp only [Host.Core.run, runSteps, core]
    cases step s with
    | next t => exact ih t
    | fault e => rfl
    | refused r => rfl

/-- A script that keeps the duties lets every call return. -/
theorem envOk_of_conforming {s : State} (h : s.conforming = true) : s.envOk = true := by
  unfold State.conforming at h
  unfold State.envOk
  split <;> simp_all [keepsDuty]

/-- What an `XCHG` leaves of such a script is such a script. -/
theorem conforming_envRest {s : State} (h : s.conforming = true) : s.envRest.all keepsDuty = true := by
  unfold State.conforming at h
  unfold State.envRest
  split <;> simp_all

/-- What any other call leaves of such a script is such a script. -/
theorem conforming_envReturned {s : State} (h : s.conforming = true) : s.envReturned.all keepsDuty = true := by
  unfold State.conforming at h
  unfold State.envReturned
  split <;> simp_all

/-- What a command does with its result calls no collaborator and issues no event. -/
theorem closeOf_env_trace (i : Instr) (res : ReadResult) (u : State) :
    (closeOf i res u).env = u.env ∧ (closeOf i res u).trace = u.trace := by
  cases i <;> cases res <;>
    simp only [closeOf, closeReset, closeIfCond, closeApp, closeOpCond, closeReadOcr, closeGeneric, afterNegotiation] <;>
    (try split_ifs) <;> simp

/-- The event of a command is one of two: an `XCHG`, which takes its entry of the script, or a `CS`, at which a received
byte waits. -/
theorem exec_event {i : Instr} {s t : State} (h : exec i s = .next t) :
    (t.env = s.envRest ∧ ∃ o, t.trace = s.trace ++ [.xchg s.busHandle o s.rxByte]) ∨
    (t.env = s.envReturned ∧ ∃ l, t.trace = s.trace ++ [.cs s.chipSelect l]) := by
  rw [exec_eq] at h
  obtain ⟨_, he⟩ := exchangeEvent_next h
  rcases he with ⟨j, k, hp, rfl⟩ | ⟨j, hp, hc, rfl⟩ | ⟨j, hp, hc, rfl⟩ | ⟨j, k, hp, rfl⟩ | ⟨j, hp, _, rfl⟩ |
    ⟨j, hp, _, rfl⟩ | ⟨j, k, hp, rfl⟩ | ⟨j, res, hp, rfl⟩ | ⟨hp, rfl⟩
  · left; unfold State.frameByteSent; split <;> simp
  · right; simp [closeOf_env_trace]
  · left; unfold State.tokenRead; split <;> simp
  · left; simp [State.extraRead]
  · left; simp [State.dummySent]
  · left; simp [State.drainRead]
  · left; simp [State.dummySent]
  · right; simp [closeOf_env_trace]
  · right; simp

end Sys2Proof.Machine
end

