-- ==== Sys2Proof/Tests/Slice0.lean ====
section
/-! SUPPORT. Tests. Expected results are the spec's: the frames, reads and decisions of 95_test_vectors.md under its test
configuration TC, the words of spec/opcode_table.json, and the constraints of R7. The last part has a concrete input for
the hypotheses of every obligation that has some. -/

namespace Sys2Proof.Tests

open Sys2Proof Sys2Proof.Machine

/-! ## Well-formedness -/

theorem test_default_configuration_is_valid : Params.default.valid = true := by decide

/-- R7: every index has six bits. -/
theorem test_wide_indices_are_refused :
    ({ Params.default with idxReset := 64 } : Params).valid = false ∧
    ({ Params.default with idxIfCond := 64 } : Params).valid = false ∧
    ({ Params.default with idxAppCmd := 64 } : Params).valid = false ∧
    ({ Params.default with idxAppOpCond := 64 } : Params).valid = false ∧
    ({ Params.default with idxReadOcr := 64 } : Params).valid = false := by decide

/-- R7: the masks. -/
theorem test_bad_masks_are_refused :
    ({ Params.default with hcsArg := 0 } : Params).valid = false ∧
    ({ Params.default with hcsArg := 0xC0000000 } : Params).valid = false ∧
    ({ Params.default with maskIllegal := 0x06 } : Params).valid = false ∧
    ({ Params.default with maskIllegal := 0x80 } : Params).valid = false ∧
    ({ Params.default with maskIllegal := 0x01 } : Params).valid = false ∧
    ({ Params.default with maskOcrReady := 0 } : Params).valid = false ∧
    ({ Params.default with maskOcrCcs := 0x60 } : Params).valid = false ∧
    ({ Params.default with maskOcrCcs := 0x80 } : Params).valid = false := by decide

/-- R7: the checksum byte and the budgets. -/
theorem test_bad_checksum_and_budgets_are_refused :
    ({ Params.default with dummyCrc := 0x95 } : Params).valid = false ∧
    ({ Params.default with tokenRetries := 0 } : Params).valid = false ∧
    ({ Params.default with busyRetries := 0 } : Params).valid = false ∧
    ({ Params.default with negRetries := 0 } : Params).valid = false ∧
    ({ Params.default with ocrRetries := 0 } : Params).valid = false := by decide

/-- The generic frame is ill formed where an earlier row has its frame, or its index is out of the contract range. -/
theorem test_ill_formed_generic_frames :
    (Instr.cmd 64 0).wf Params.default = false ∧
    (Instr.cmd 0 0).wf Params.default = false ∧
    (Instr.cmd 8 0x1AA).wf Params.default = false ∧
    (Instr.cmd 55 0).wf Params.default = false ∧
    (Instr.cmd 41 7).wf Params.default = false ∧
    (Instr.cmd 58 0).wf Params.default = false := by decide

/-- A named command is ill formed where the configuration gives an earlier row its frame. -/
theorem test_ill_formed_named_commands :
    Instr.cmdIfCond.wf { Params.default with idxIfCond := 0, checkArg := 0 } = false ∧
    Instr.cmdApp.wf { Params.default with idxAppCmd := 0 } = false ∧
    Instr.cmdApp.wf { Params.default with idxAppCmd := 8, checkArg := 0 } = false ∧
    (Instr.acmdOpCond 0).wf { Params.default with idxAppOpCond := 0 } = false ∧
    (Instr.acmdOpCond 0x1AA).wf { Params.default with idxAppOpCond := 8 } = false ∧
    (Instr.acmdOpCond 0).wf { Params.default with idxAppOpCond := 55 } = false ∧
    Instr.cmdReadOcr.wf { Params.default with idxReadOcr := 0 } = false ∧
    Instr.cmdReadOcr.wf { Params.default with idxReadOcr := 8, checkArg := 0 } = false ∧
    Instr.cmdReadOcr.wf { Params.default with idxReadOcr := 55 } = false ∧
    Instr.cmdReadOcr.wf { Params.default with idxReadOcr := 41 } = false := by decide

/-! ## Encodings -/

/-- The words are the opcode table's "encoding" strings, with the checksum 0x95 or 0xFF in the c bits. -/
theorem test_table_words_decode :
    decodeTableWord 48 0b010000000000000000000000000000000000000010010101 = some .cmdReset ∧
    decodeTableWord 48 0b010010000000000000000000000000011010101011111111 = some .cmdIfCond ∧
    decodeTableWord 48 0b011101110000000000000000000000000000000011111111 = some .cmdApp ∧
    decodeTableWord 48 0b011010010100000000000000000000000000000011111111 = some (.acmdOpCond 0x40000000) ∧
    decodeTableWord 48 0b011110100000000000000000000000000000000011111111 = some .cmdReadOcr ∧
    decodeTableWord 48 0b010011000000000000000000000000000000000011111111 = some (.cmd 12 0) := by decide

/-- R81, vectors D3 and D4: the framing bits 11, 00 and 10 are refused. -/
theorem test_other_framing_bits_are_refused :
    decodeTableWord 48 0xC00000000095 = none ∧ decodeTableWord 48 0x000000000095 = none ∧
    decodeTableWord 48 0x800000000095 = none := by decide

/-- R70: six bytes and no other number. -/
theorem test_wrong_length_is_refused :
    decode Params.default [0x40, 0, 0, 0, 0] = .error .wrongLength ∧
    decode Params.default [0x40, 0, 0, 0, 0, 0x95, 0] = .error .wrongLength := ⟨rfl, rfl⟩

/-- Vectors F1, F8, F9, F10 and F11. -/
theorem test_frames :
    (frame 0xFF 0 0 true).bytes = [0x40, 0x00, 0x00, 0x00, 0x00, 0x95] ∧
    (frame 0xFF 63 0xFFFFFFFF false).bytes = [0x7F, 0xFF, 0xFF, 0xFF, 0xFF, 0xFF] ∧
    (frame 0xFF 64 0x12345678 false).bytes = [0x40, 0x12, 0x34, 0x56, 0x78, 0xFF] ∧
    (frame 0xFF 0xFF 0 false).bytes = [0x7F, 0x00, 0x00, 0x00, 0x00, 0xFF] ∧
    (frame 0xFF 8 0x1AA true).bytes = [0x48, 0x00, 0x00, 0x01, 0xAA, 0x95] := by decide

/-- Vectors F1, F3, F4, F5, F7 and F12: the frames of the rows of the table. -/
theorem test_encode_rows :
    (encode Params.default true .cmdReset).bytes = [0x40, 0x00, 0x00, 0x00, 0x00, 0x95] ∧
    (encode Params.default false .cmdIfCond).bytes = [0x48, 0x00, 0x00, 0x01, 0xAA, 0xFF] ∧
    (encode Params.default false .cmdApp).bytes = [0x77, 0x00, 0x00, 0x00, 0x00, 0xFF] ∧
    (encode Params.default false (.acmdOpCond 0x40000000)).bytes = [0x69, 0x40, 0x00, 0x00, 0x00, 0xFF] ∧
    (encode Params.default false .cmdReadOcr).bytes = [0x7A, 0x00, 0x00, 0x00, 0x00, 0xFF] ∧
    (encode Params.default false (.cmd 17 0x200)).bytes = [0x51, 0x00, 0x00, 0x02, 0x00, 0xFF] := by decide

/-- Vectors D1 and D2. -/
theorem test_decode_frame :
    decodeFrame ⟨0x48, 0x00, 0x00, 0x01, 0xAA, 0xFF⟩ = ⟨true, 8, 0x1AA, 0xFF, false⟩ ∧
    decodeFrame ⟨0x7F, 0xFF, 0xFF, 0xFF, 0xFF, 0xFF⟩ = ⟨true, 63, 0xFFFFFFFF, 0xFF, false⟩ := by decide

/-! ## Flags (95_test_vectors.md section 2.4) -/

theorem test_status_flags :
    [0x00, 0x01, 0x04, 0x05, 0x09, 0x7F].map
        (fun b : Byte => [stIdle b, stIllegal Params.default b, stIdleExact b, stZero b]) =
      [[false, false, false, true], [true, false, true, false], [false, true, false, false],
        [true, true, false, false], [true, false, false, false], [true, true, false, false]] := by decide

theorem test_ready_flags :
    [((0x00 : Byte), (0x80 : Byte)), (0x00, 0xC0), (0x00, 0x7F), (0x00, 0x00), (0x01, 0x80), (0x04, 0x80)].map
        (fun p => [ocReady Params.default p.2, ocCcs Params.default p.2, readyResp Params.default p.1 p.2]) =
      [[true, false, true], [true, true, true], [false, true, false], [false, false, false], [true, false, false],
        [true, false, true]] := by decide

/-- R221's classes: the codes from 0x11 on are protocol faults. -/
theorem test_cause_classes :
    [Cause.tTokenReset, .tOcrBudget, .tBusy, .fResetStatus, .fNegStatus].map (fun c => (c.code, c.isTimeout)) =
      [(0x01, true), (0x07, true), (0x08, true), (0x11, false), (0x13, false)] := by decide

/-! ## Small states -/

/-- A run in progress that has sent its first frame: at a place, in a phase, with the card's next bytes. -/
def during (ph : Phase) (q : Pos) (line : CsLevel) (bytes : List Byte) : State :=
  { State.reset with
    timedOut := some false
    faulted := some false
    isV2 := some false
    phase := ph
    firstCmdPending := false
    negAttempts := some 1
    ocrAttempts := some 1
    tokenTries := some 0
    busyTries := some 0
    csLevel := line
    pos := q
    env := bytes.map .reply }

/-- The same, at the release of a command whose response has these first two bytes. -/
def closing (ph : Phase) (i : Instr) (b0 b1 : Byte) : State :=
  { during ph (.exch i (.release .ok)) .low [] with r := ⟨some b0, some b1, none, none, none⟩ }

/-- At rest, with operations of the caller. -/
def asked (s : State) (ops : List HostOp) : State := { s with pos := .rest, host := ops }

/-- The next state, where there is one. -/
def nextOf : Host.Outcome State Fault Refusal → Option State
  | .next t => some t
  | .fault _ => none
  | .refused _ => none

/-- The position a step leads to. -/
def posOf (o : Host.Outcome State Fault Refusal) : Option Pos := (nextOf o).map (·.pos)

/-- The last event a step issues. -/
def eventOf (o : Host.Outcome State Fault Refusal) : Option (Option Event) := (nextOf o).map (·.trace.getLast?)

/-! ## Commands (95_test_vectors.md section 2.5) -/

/-- Vectors Q1 and Q3: 0x01 alone is accepted. -/
theorem test_reset_status :
    posOf (exec .cmdReset (closing .reset .cmdReset 0x01 0)) = some (.command .probe) ∧
    posOf (exec .cmdReset (closing .reset .cmdReset 0x05 0)) = some (.faultRelease .fResetStatus) := by decide

/-- Vector Q5: eight reads without a token. -/
theorem test_reset_timeout :
    posOf (exec .cmdReset { during .reset (.exch .cmdReset .token) .low [0x01] with tokenTries := some 8 }) =
      some (.faultRelease .tTokenReset) := by decide

/-- Vectors Q8 and Q9: the illegal-command bit decides the version. -/
theorem test_probe_version :
    (nextOf (exec .cmdIfCond (closing .probe .cmdIfCond 0x09 0xFF))).map (fun t => (t.isV2, t.phase)) =
      some (some true, .negotiate) ∧
    (nextOf (exec .cmdIfCond (closing .probe .cmdIfCond 0x0D 0xFF))).map (fun t => (t.isV2, t.phase)) =
      some (some false, .negotiate) := by decide

/-- Vectors Q11 and Q12. -/
theorem test_probe_not_idle :
    posOf (exec .cmdIfCond (closing .probe .cmdIfCond 0x00 0)) = some (.faultRelease .fProbeNotIdle) ∧
    posOf (exec .cmdIfCond (closing .probe .cmdIfCond 0x04 0xFF)) = some (.faultRelease .fProbeNotIdle) := by decide

/-- Vector Q18: the prefix's status is not tested. -/
theorem test_app_status_not_tested :
    posOf (exec .cmdApp (closing .negotiate .cmdApp 0x05 0)) = some (.command .query) := by decide

/-- Vectors Q13, Q15, Q16 and Q17. -/
theorem test_query_decisions :
    posOf (exec (.acmdOpCond 0) (closing .negotiate (.acmdOpCond 0) 0x01 0xFF)) = some (.command .attempt) ∧
    posOf (exec (.acmdOpCond 0) (closing .negotiate (.acmdOpCond 0) 0x00 0x00)) = some (.command .attempt) ∧
    posOf (exec (.acmdOpCond 0) (closing .negotiate (.acmdOpCond 0) 0x04 0x80)) =
      some (.faultRelease .fNegStatus) ∧
    posOf (exec (.acmdOpCond 0) (closing .negotiate (.acmdOpCond 0) 0x05 0xFF)) = some (.command .attempt) := by decide

/-- Vector Q14, for a card that is not v2 and for one that is. -/
theorem test_query_ready :
    posOf (exec (.acmdOpCond 0) (closing .negotiate (.acmdOpCond 0) 0x00 0xFF)) = some .done ∧
    posOf (exec (.acmdOpCond 0) { closing .negotiate (.acmdOpCond 0) 0x00 0xFF with isV2 := some true }) =
      some (.command .register) := by decide

/-- Vectors Q20, Q21 and Q22. -/
theorem test_register_capacity :
    [((0x00 : Byte), (0xC0 : Byte)), (0x00, 0x80), (0x04, 0xC0)].map (fun b =>
        (nextOf (exec .cmdReadOcr (closing .readOcr .cmdReadOcr b.1 b.2))).map (fun t => (t.isHighCapacity, t.phase))) =
      [some (some true, .ready), some (some false, .ready), some (some true, .ready)] := by decide

/-- Vectors Q23 and Q24. -/
theorem test_register_not_ready :
    posOf (exec .cmdReadOcr (closing .readOcr .cmdReadOcr 0x01 0xC0)) = some (.command .register) ∧
    posOf (exec .cmdReadOcr (closing .readOcr .cmdReadOcr 0x00 0x40)) = some (.command .register) := by decide

/-- Vector X4's first event, and its first frame byte. -/
theorem test_generic_frame_is_sent :
    eventOf (exec (.cmd 12 0) (during .ready .direct .high [])) = some (some (.cs 0 .low)) ∧
    eventOf (exec (.cmd 12 0) { during .ready (.exch (.cmd 12 0) (.frame 0)) .low [0xA5] with
      f := some ⟨0x4C, 0, 0, 0, 0, 0xFF⟩ }) = some (some (.xchg 0 0x4C 0xA5)) := by decide

/-- Vectors T15 and T16 with the shape S1B: the budget of four, and any non-zero byte. -/
theorem test_busy_drain :
    posOf (exec (.cmd 12 0) { during .ready (.exch (.cmd 12 0) .drain) .low [0x55] with busyTries := some 4 }) =
      some (.exch (.cmd 12 0) (.release .timeoutBusy)) ∧
    posOf (exec (.cmd 12 0) (during .ready (.exch (.cmd 12 0) .drain) .low [0x01])) =
      some (.exch (.cmd 12 0) (.dummy true)) := by decide

/-- Vectors T3 and T9: 0x80 is no token and 0x7F is one; a byte after the token is stored whatever it is. -/
theorem test_token_search :
    posOf (exec .cmdReset (during .reset (.exch .cmdReset .token) .low [0x80])) = some (.exch .cmdReset .token) ∧
    (nextOf (exec .cmdReset (during .reset (.exch .cmdReset .token) .low [0x7F]))).map (fun t => (t.pos, t.r.r0)) =
      some (.exch .cmdReset (.release .ok), some 0x7F) ∧
    (nextOf (exec (.cmd 13 0) { during .ready (.exch (.cmd 13 0) (.extra 0)) .low [0xFF] with shape := .s2 })).map
        (fun t => (t.pos, t.r.r1)) = some (.exch (.cmd 13 0) (.release .ok), some 0xFF) := by decide

/-! ## The sequencer and the host interface -/

/-- SETUP of 95_test_vectors.md: ten idle bytes with chip-select released and two with it asserted. -/
theorem test_idle_clocking :
    eventOf (step (during .reset (.idleHigh 9) .high [0x00])) = some (some (.xchg 0 0xFF 0x00)) ∧
    eventOf (step (during .reset (.idleHigh 10) .high [])) = some (some (.cs 0 .low)) ∧
    eventOf (step (during .reset (.idleLow 2) .low [])) = some (some (.cs 0 .high)) := by decide

/-- R169 in PR3 and PR5: the outcome of the two classes of failure. -/
theorem test_fault_outcomes :
    (nextOf (step (during .faulted (.faultDummy .tTokenReset) .high [0xFF]))).map
        (fun t => (t.outcome, t.timedOut, t.faulted)) = some (.timedOut, some true, some true) ∧
    (nextOf (step (during .faulted (.faultDummy .fResetStatus) .high [0xFF]))).map
        (fun t => (t.outcome, t.timedOut, t.faulted)) = some (.faulted, some false, some true) := by decide

/-- Vectors H1, H3 (a ready session whose card is not v2) and H9. -/
theorem test_host_refusals :
    step (asked State.reset [.get .faulted]) = .refused (.unwrittenFlag .faulted) ∧
    step (asked (during .ready .rest .high []) [.get .isHighCapacity]) = .refused (.unwrittenFlag .isHighCapacity) ∧
    step (asked (during .ready .rest .high []) [.callInit]) = .refused .startInReady := ⟨rfl, rfl, rfl⟩

/-- Vector H2: after a run that ended in READY, the three flags that the run has written are read as 0. -/
theorem test_written_flags_are_read :
    [Accessor.isV2, .timedOut, .faulted].map (fun a =>
        (nextOf (step (asked (during .ready .rest .high []) [.get a]))).map (·.returned)) =
      [some [(.isV2, false)], some [(.timedOut, false)], some [(.faulted, false)]] := by decide

/-- R8. -/
theorem test_bad_configuration_is_refused :
    step { State.reset with params := { Params.default with negRetries := 0 } } = .refused .badConfiguration := rfl

/-- A word placed with `withFetchWord` is run by the very next step. -/
theorem test_placed_word_runs :
    posOf (step (State.reset.withFetchWord 48 0x7A00000000FF)) = some (.exch .cmdReadOcr (.frame 0)) ∧
    posOf (step (State.reset.withFetchWord 48 0x5100000200FF)) = some (.exch (.cmd 17 0x200) (.frame 0)) := by decide

/-- R258: once `CFG_CLK` has returned, `CFG_OUT` hangs; once the first `CS` has returned, the first idle byte hangs. -/
theorem test_hang_can_follow_any_call :
    (nextOf (step { during .reset .cfgClk .unknown [] with env := [.returns, .hang] })).map (fun t => (t.pos, t.env)) =
      some (.cfgOut, [.hang]) ∧
    step { during .reset .cfgOut .unknown [] with env := [.hang] } = .fault .collaboratorHang ∧
    (nextOf (step { during .reset .csFirst .unknown [] with env := [.returns, .hang] })).map (fun t => (t.pos, t.env)) =
      some (.idleHigh 0, [.hang]) ∧
    step { during .reset (.idleHigh 0) .high [] with env := [.hang] } = .fault .collaboratorHang :=
  ⟨by decide, rfl, by decide, rfl⟩

/-- R258: once the release before the reset exchange has returned, the `CS(LOW)` that opens the exchange hangs. -/
theorem test_hang_can_follow_chip_select :
    (nextOf (step { during .reset (.idleLow 2) .low [] with env := [.returns, .hang] })).map (fun t => (t.pos, t.env)) =
      some (.command .reset, [.hang]) ∧
    step { during .reset (.command .reset) .high [] with env := [.hang] } = .fault .collaboratorHang := ⟨by decide, rfl⟩

/-! ## Inputs that meet the hypotheses of the obligations

One theorem for each obligation with hypotheses, under its name. -/

/-- The state at the place of the reset command. -/
def atReset : State := { during .reset (.command .reset) .high [] with firstCmdPending := true }

/-- A faulted session before the `DONE` of its run. -/
def faultedRun (c : Cause) : State :=
  { during .faulted .done .high [] with
    faulted := some true
    timedOut := some c.isTimeout
    cause := some c
    outcome := if c.isTimeout then .timedOut else .faulted }

/-- A ready session before the `DONE` of its run. -/
def readyRun : State := { during .ready .done .high [] with outcome := .success }

/-- A faulted session at rest. -/
def faultedRest : State := { faultedRun .fResetStatus with pos := .rest }

/-- At the release of a query that is ready with status zero. -/
def queryReady (v2 : Bool) : State :=
  { closing .negotiate (.acmdOpCond (if v2 then 0x40000000 else 0)) 0x00 0x80 with isV2 := some v2 }

/-- At the head of the register-read loop, with one attempt counted. -/
def atRegister : State := { during .readOcr (.command .register) .high [0x00] with isV2 := some true }

theorem atReset_inv : atReset.Inv := by
  refine ⟨?_, ?_, ?_, ?_, ?_, ?_, ?_⟩ <;>
    simp [State.LineOk, State.PhaseOk, State.FlagsOk, State.VersionOk, State.CountersOk, State.FrameOk, State.ReadOk,
      posLevel, posPhase, State.beforeFirstFrame, atReset, during, State.reset, State.construct, Params.default]

theorem faultedRun_inv : (faultedRun .tTokenReset).Inv ∧ (faultedRun .fNegStatus).Inv := by
  refine ⟨⟨?_, ?_, ?_, ?_, ?_, ?_, ?_⟩, ⟨?_, ?_, ?_, ?_, ?_, ?_, ?_⟩⟩ <;>
    simp [State.LineOk, State.PhaseOk, State.FlagsOk, State.VersionOk, State.CountersOk, State.FrameOk, State.ReadOk,
      posLevel, posPhase, inFaultProcedure, State.beforeFirstFrame, faultedRun, during, State.reset, State.construct,
      Params.default, Cause.isTimeout]

theorem readyRun_inv : readyRun.Inv := by
  refine ⟨?_, ?_, ?_, ?_, ?_, ?_, ?_⟩ <;>
    simp [State.LineOk, State.PhaseOk, State.FlagsOk, State.VersionOk, State.CountersOk, State.FrameOk, State.ReadOk,
      posLevel, posPhase, State.beforeFirstFrame, readyRun, during, State.reset, State.construct, Params.default]

theorem queryReady_inv (v2 : Bool) : (queryReady v2).Inv := by
  cases v2 <;> refine ⟨?_, ?_, ?_, ?_, ?_, ?_, ?_⟩ <;>
    simp [State.LineOk, State.PhaseOk, State.FlagsOk, State.VersionOk, State.CountersOk, State.FrameOk, State.ReadOk,
      posLevel, posPhase, State.beforeFirstFrame, queryReady, closing, during, State.reset, State.construct,
      Params.default, opCondArg, State.version, State.hasStatus, isToken, instrShape]

theorem atRegister_inv : atRegister.Inv := by
  refine ⟨?_, ?_, ?_, ?_, ?_, ?_, ?_⟩ <;>
    simp [State.LineOk, State.PhaseOk, State.FlagsOk, State.VersionOk, State.CountersOk, State.FrameOk, State.ReadOk,
      posLevel, posPhase, State.beforeFirstFrame, atRegister, during, State.reset, State.construct, Params.default]

theorem test_input_ChecksumMarksFirstCommand : (0xFF : Byte) ≠ 0x95 := by decide

/-- The last index of the contract range, and the first beyond it. -/
theorem test_input_DecodeFrameInvertsFramer : (63 : Byte) < 64 ∧ ¬(64 : Byte) < 64 := by decide

theorem test_input_OtherFramingBitsAreNoCommand :
    ([0xC0, 0x00, 0x80, 0xBF] : List Byte).all (fun b => b.extractLsb' 6 2 != 0b01#2) = true := by decide

/-- Every constructor, the generic frame at its largest index. -/
theorem test_input_DecodeEncodeRoundTrip :
    Params.default.valid = true ∧ Instr.cmdReset.wf Params.default = true ∧ Instr.cmdIfCond.wf Params.default = true ∧
    Instr.cmdApp.wf Params.default = true ∧ (Instr.acmdOpCond 0xFFFFFFFF).wf Params.default = true ∧
    Instr.cmdReadOcr.wf Params.default = true ∧ (Instr.cmd 63 0xFFFFFFFF).wf Params.default = true := by decide

theorem test_input_EveryFrameIsItsInstruction :
    Params.default.valid = true ∧ (0x7F : Byte).extractLsb' 6 2 = 0b01#2 ∧ (0x40 : Byte).extractLsb' 6 2 = 0b01#2 := by
  decide

theorem test_input_StepRunsDecodedFrame :
    ∃ s : State, s.params.valid = true ∧ s.pos = .direct ∧ s.f = some ⟨0x7F, 0xFF, 0xFF, 0xFF, 0xFF, 0xFF⟩ ∧
      decode s.params (⟨0x7F, 0xFF, 0xFF, 0xFF, 0xFF, 0xFF⟩ : Frame).bytes = .ok (.cmd 63 0xFFFFFFFF) :=
  ⟨State.reset.withFetchWord 48 0x7FFFFFFFFFFF, by decide, rfl, rfl, rfl⟩

theorem test_input_StepContinuesCommand :
    ∃ s : State, s.params.valid = true ∧ s.pos = .exch .cmdApp (.frame 5) :=
  ⟨during .negotiate (.exch .cmdApp (.frame 5)) .low [], by decide, rfl⟩

/-- The two loop heads at the last attempt their budgets allow. -/
theorem test_input_SequencerIssuesItsCommands :
    atReset.params.valid = true ∧ atReset.pos = .command .reset ∧
    (during .probe (.command .probe) .high []).pos = .command .probe ∧
    { during .negotiate (.command .attempt) .high [] with negAttempts := some 2 }.negAttempts = some 2 ∧
    2 ≠ atReset.params.negRetries ∧
    (during .negotiate (.command .query) .high []).isV2 = some false ∧
    { during .negotiate (.command .query) .high [] with isV2 := some true }.isV2 = some true ∧
    atRegister.pos = .command .register ∧ atRegister.ocrAttempts = some 1 ∧ 1 ≠ atRegister.params.ocrRetries := by
  decide

theorem test_input_SpentBudgetRaises :
    ∃ s u : State, s.params.valid = true ∧ s.envOk = true ∧ s.pos = .command .attempt ∧
      s.negAttempts = some s.params.negRetries ∧ u.params.valid = true ∧ u.envOk = true ∧
      u.pos = .command .register ∧ u.ocrAttempts = some u.params.ocrRetries :=
  ⟨{ during .negotiate (.command .attempt) .high [] with negAttempts := some 3 },
    { during .readOcr (.command .register) .high [] with ocrAttempts := some 2 }, by decide⟩

theorem test_input_OneEventPerStep :
    (nextOf (step readyRun)).isSome = true ∧ readyRun.pos ≠ .rest ∧
    (nextOf (step (asked State.reset [.callInit]))).isSome = true ∧
    (nextOf (step State.reset)).isSome = true ∧
    (asked State.reset [.construct 1 2]).constructsNext = true := by decide

theorem test_input_ConstructGivesFreshSession :
    ∃ s : State, s.params.valid = true ∧ s.pos = .rest ∧ s.host = .construct 7 9 :: [.callInit] ∧
      s.phase = .faulted :=
  ⟨asked faultedRest [.construct 7 9, .callInit], by decide⟩

theorem test_input_StartBeginsRun :
    ∃ s : State, s.params.valid = true ∧ s.pos = .rest ∧ s.host = .callInit :: [] ∧ s.phase = .constructed :=
  ⟨asked State.reset [.callInit], by decide⟩

theorem test_input_StartOnFaultedSessionReturns :
    ∃ s : State, s.params.valid = true ∧ s.pos = .rest ∧ s.host = .callInit :: [] ∧ s.phase = .faulted :=
  ⟨asked faultedRest [.callInit], by decide⟩

/-- Each phase of the two clauses. -/
theorem test_input_StartElsewhereIsRefused :
    ∀ ph ∈ [Phase.ready, .reset, .probe, .negotiate, .readOcr],
      (asked (during ph .rest .high []) [.callInit]).params.valid = true ∧
      (asked (during ph .rest .high []) [.callInit]).host = .callInit :: [] ∧
      (asked (during ph .rest .high []) [.callInit]).phase = ph := by decide

/-- A written and an `UNWRITTEN` flag. -/
theorem test_input_AccessorsReadFlags :
    (asked readyRun [.get .isV2]).params.valid = true ∧ (asked readyRun [.get .isV2]).pos = .rest ∧
    (asked readyRun [.get .isV2]).flag .isV2 = some false ∧
    (asked readyRun [.get .isV2]).host = .get .isV2 :: [] ∧
    (asked readyRun [.get .isHighCapacity]).params.valid = true ∧
    (asked readyRun [.get .isHighCapacity]).host = .get .isHighCapacity :: [] ∧
    (asked readyRun [.get .isHighCapacity]).flag .isHighCapacity = none := by decide

/-- Before `DONE`, once with a new session queued, and at rest. -/
theorem test_input_FaultedSessionIsTerminal :
    (faultedRun .fResetStatus).phase = .faulted ∧ (faultedRun .fResetStatus).constructsNext = false ∧
    (nextOf (step (faultedRun .fResetStatus))).isSome = true ∧
    { faultedRun .tTokenReset with host := [.construct 7 9] }.constructsNext = true ∧
    (nextOf (step { faultedRun .tTokenReset with host := [.construct 7 9] })).isSome = true ∧
    (asked faultedRest [.callInit]).constructsNext = false ∧
    (nextOf (step (asked faultedRest [.callInit]))).isSome = true := by decide

theorem test_input_PowerUpSequence :
    ∃ (s : State) (hi lo : List Byte) (rest : List EnvAct), s.params.valid = true ∧ s.pos = .cfgClk ∧
      hi.length = s.params.nIdleHigh ∧ lo.length = s.params.nIdleLow ∧ s.env = (hi ++ lo).map .reply ++ rest ∧
      rest.all isReply = true :=
  ⟨during .reset .cfgClk .unknown (List.replicate 13 0xFF), List.replicate 10 0xFF, List.replicate 2 0xFF,
    [.reply 0xFF], by decide⟩

theorem test_input_EveryCommandOpensItsExchange :
    ∃ s : State, s.envOk = true ∧ ∀ j x, s.pos ≠ .exch j x :=
  ⟨atReset, by decide, by simp [atReset, during]⟩

theorem test_input_FrameIsSentInSixExchanges :
    ∃ s : State, s.params.valid = true ∧ s.pos = .exch .cmdApp (.frame 0) ∧
      s.f = some ⟨0x77, 0, 0, 0, 0, 0xFF⟩ ∧ s.env = [0, 0, 0, 0, 0, 0].map .reply ++ [.hang] :=
  ⟨{ during .negotiate (.exch .cmdApp (.frame 0)) .low [] with
      f := some ⟨0x77, 0, 0, 0, 0, 0xFF⟩
      env := [0, 0, 0, 0, 0, 0].map .reply ++ [.hang] }, by decide⟩

/-- Vectors T12, T4 and T9: the token at the last position the budget allows, and the shapes S5, S1 and S2. -/
theorem test_input_ReadStoresResponseBytes :
    ∀ x ∈ [(Instr.cmdReadOcr, ([0x11, 0x22, 0x33, 0x44] : List Byte)), (.cmdReset, []), (.cmd 13 0, [0xFF])],
      ∃ s : State, s.params.valid = true ∧ s.pos = .exch x.1 .token ∧ s.tokenTries = some 0 ∧
        instrShape s.shape x.1 ≠ .s1b ∧ (∀ b ∈ List.replicate 7 (0xFF : Byte), b.getLsbD 7 = true) ∧
        (0x00 : Byte).getLsbD 7 = false ∧ (List.replicate 7 (0xFF : Byte)).length < s.params.tokenRetries ∧
        x.2.length + 1 = shapeLen (instrShape s.shape x.1) ∧
        s.env = (List.replicate 7 0xFF ++ 0x00 :: x.2).map .reply ++ [] := by
  intro x hx
  refine ⟨{ during .probe (.exch x.1 .token) .low (List.replicate 7 0xFF ++ 0x00 :: x.2) with shape := .s2 },
    test_default_configuration_is_valid, rfl, rfl, ?_, by decide, by decide, (by decide : 7 < 8), ?_, by simp [during]⟩ <;>
  · fin_cases hx <;> decide

/-- Vector T5. -/
theorem test_input_TokenTimeoutAfterBudget :
    ∃ (s : State) (pre : List Byte), s.params.valid = true ∧ s.pos = .exch .cmdReset .token ∧ s.tokenTries = some 0 ∧
      (∀ b ∈ pre, b.getLsbD 7 = true) ∧ pre.length = s.params.tokenRetries ∧ s.env = pre.map .reply ++ [] ∧
      tokenTimeoutCause .cmdReset = some .tTokenReset ∧ tokenTimeoutCause (.cmd 1 0) = none :=
  ⟨during .reset (.exch .cmdReset .token) .low (List.replicate 8 0xFF), List.replicate 8 0xFF, by decide⟩

/-- Vectors T14 (three reads, then a dummy) and T15 (four zero bytes, then a dummy). -/
theorem test_input_BusyDrainEndsOrTimesOut :
    ∃ s u : State, s.params.valid = true ∧ s.pos = .exch (.cmd 12 0) .drain ∧ s.busyTries = some 0 ∧
      ([0, 0] : List Byte).length < s.params.busyRetries ∧ s.env = ([0, 0] ++ [0xFF, 0x55]).map .reply ++ [] ∧
      u.params.valid = true ∧ u.pos = .exch (.cmd 12 0) .drain ∧ u.busyTries = some 0 ∧
      ([0, 0, 0, 0] : List Byte).length = u.params.busyRetries ∧
      u.env = ([0, 0, 0, 0] ++ [0x55]).map .reply ++ [] :=
  ⟨during .ready (.exch (.cmd 12 0) .drain) .low [0, 0, 0xFF, 0x55],
    during .ready (.exch (.cmd 12 0) .drain) .low [0, 0, 0, 0, 0x55], by decide⟩

/-- Vectors T14 and T15 from their tokens on: the token at the first position and, with seven other bytes before it, at
the last the budget allows; the drain cleared by its third and timed out by its fourth byte. -/
theorem test_input_BusyReadFromItsToken :
    ∀ pre ∈ [[], List.replicate 7 (0xFF : Byte)],
    ∃ s u v : State, s.params.valid = true ∧ s.pos = .exch (.cmd 12 0) .token ∧ s.tokenTries = some 0 ∧ s.shape = .s1b ∧
      (∀ z ∈ pre, z.getLsbD 7 = true) ∧ (0x00 : Byte).getLsbD 7 = false ∧ pre.length < s.params.tokenRetries ∧
      s.env = (pre ++ [0x00]).map .reply ++ [.hang] ∧
      u = { s with env := (pre ++ 0x00 :: [0, 0] ++ [0x01, 0x55]).map .reply ++ [] } ∧
      ([0, 0] : List Byte).length < u.params.busyRetries ∧ (0x01 : Byte) ≠ 0 ∧
      v = { s with env := (pre ++ 0x00 :: [0, 0, 0, 0] ++ [0x55]).map .reply ++ [] } ∧
      ([0, 0, 0, 0] : List Byte).length = v.params.busyRetries := by
  intro pre hpre
  refine ⟨{ during .ready (.exch (.cmd 12 0) .token) .low [] with
      shape := .s1b
      env := (pre ++ [0x00]).map .reply ++ [.hang] }, _, _, test_default_configuration_is_valid, rfl, rfl, rfl, ?_, by decide,
    ?_, rfl, rfl, (by decide : 2 < 4), by decide, rfl, (by decide : 4 = 4)⟩ <;>
  · fin_cases hpre <;> decide

theorem test_input_ExchangeIsBracketed :
    (nextOf (step (closing .reset .cmdReset 0x01 0))).isSome = true ∧
    (nextOf (step (during .reset (.exch .cmdReset .token) .low [0xFF]))).isSome = true := by decide

theorem test_input_ResetCommandDecides :
    ∃ s u v w x : State, s.envOk = true ∧ s.params.valid = true ∧ s.Inv ∧ s.pos = .command .reset ∧
      u.pos = .exch .cmdReset .token ∧ u.tokenTries = some u.params.tokenRetries ∧ u.envOk = true ∧
      v.pos = .exch .cmdReset (.release .ok) ∧ v.r.r0 = some 0x01 ∧ v.envOk = true ∧
      w.pos = .exch .cmdReset (.release .ok) ∧ w.r.r0 = some 0x00 ∧ w.envOk = true ∧
      x.pos = .exch .cmdReset (.release .ok) ∧ x.r.r0 = some 0x05 ∧ x.envOk = true ∧ x.params.valid = true ∧
      x.timedOut = some false ∧ x.env = .reply 0xFF :: [] :=
  ⟨atReset, { during .reset (.exch .cmdReset .token) .low [] with tokenTries := some 8 },
    closing .reset .cmdReset 0x01 0, closing .reset .cmdReset 0x00 0,
    { closing .reset .cmdReset 0x05 0 with env := [.reply 0xFF] }, by decide, by decide, atReset_inv, by decide⟩

theorem test_input_ProbeDetectsVersion :
    ∃ s : State, s.envOk = true ∧ s.pos = .exch .cmdIfCond (.release .ok) ∧ s.r.r0 = some 0x05 ∧
      (0x05 : Byte) &&& 0x01 ≠ 0 :=
  ⟨closing .probe .cmdIfCond 0x05 0xFF, by decide⟩

theorem test_input_ProbeNotIdleFaults :
    ∃ s : State, s.envOk = true ∧ s.pos = .exch .cmdIfCond (.release .ok) ∧ s.r.r0 = some 0x04 ∧
      (0x04 : Byte) &&& 0x01 = 0 :=
  ⟨closing .probe .cmdIfCond 0x04 0xFF, by decide⟩

theorem test_input_AppCommandStatusIsNotTested :
    ∃ s : State, s.envOk = true ∧ s.pos = .exch .cmdApp (.release .ok) :=
  ⟨closing .negotiate .cmdApp 0x05 0, by decide⟩

theorem test_input_QueryResponseDecides :
    ∃ s u : State, s.envOk = true ∧ s.r.r0 = some 0x00 ∧ s.r.r1 = some 0x80 ∧
      s.pos = .exch (.acmdOpCond 0x40000000) (.release .ok) ∧
      u.envOk = true ∧ u.r.r0 = some 0x04 ∧ u.r.r1 = some 0x80 ∧ u.pos = .exch .cmdApp (.release .ok) :=
  ⟨queryReady true, closing .negotiate .cmdApp 0x04 0x80, by decide⟩

theorem test_input_RegisterReadDecides :
    ∃ s : State, s.envOk = true ∧ s.pos = .exch .cmdReadOcr (.release .ok) ∧ s.r.r0 = some 0x00 ∧
      s.r.r1 = some 0xC0 :=
  ⟨closing .readOcr .cmdReadOcr 0x00 0xC0, by decide⟩

theorem test_input_GenericExchangeReturnsResult :
    ∃ s : State, s.envOk = true ∧ s.pos = .exch (.cmd 12 0) (.release .timeoutBusy) :=
  ⟨during .ready (.exch (.cmd 12 0) (.release .timeoutBusy)) .low [], by decide⟩

theorem test_input_CapacityFlagHasOneWriter :
    ∃ s u : State, (nextOf (step s)).isSome = true ∧ s.pos = .exch .cmdReadOcr (.release .ok) ∧
      readyResp s.params s.status s.second = true ∧
      (nextOf (step u)).isSome = true ∧ u.pos = .exch .cmdReadOcr (.release .ok) ∧
      readyResp u.params u.status u.second = false :=
  ⟨closing .readOcr .cmdReadOcr 0x00 0xC0, closing .readOcr .cmdReadOcr 0x00 0x40, by decide⟩

theorem test_input_FaultProcedureRuns :
    ∃ s : State, s.params.valid = true ∧ s.pos = .faultRelease .tNegBudget ∧ s.env = .reply 0xFF :: [] ∧
      s.timedOut = some false :=
  ⟨during .faulted (.faultRelease .tNegBudget) .high [0xFF], by decide⟩

theorem test_input_DoneReturnsOutcomeOfFlags :
    readyRun.Inv ∧ readyRun.pos = .done ∧ (nextOf (step readyRun)).isSome = true ∧
    (faultedRun .tTokenReset).Inv ∧ (nextOf (step (faultedRun .tTokenReset))).isSome = true ∧
    (faultedRun .fNegStatus).Inv ∧ (nextOf (step (faultedRun .fNegStatus))).isSome = true :=
  ⟨readyRun_inv, rfl, by decide, faultedRun_inv.1, by decide, faultedRun_inv.2, by decide⟩

/-- Each kind of event of an exchange: the opening, a frame byte, the token, the token timeout, a byte after the token,
the drain, the dummy byte and the release. -/
theorem test_input_CommandFrame :
    (nextOf (exec .cmdReset atReset)).isSome = true ∧
    (nextOf (exec .cmdReset (during .reset (.exch .cmdReset (.frame 0)) .low [0]))).isSome = true ∧
    (nextOf (exec .cmdIfCond { during .probe (.exch .cmdIfCond .token) .low [] with tokenTries := some 8 })).isSome = true ∧
    (nextOf (exec .cmdReadOcr (during .readOcr (.exch .cmdReadOcr (.extra 3)) .low [0]))).isSome = true ∧
    (nextOf (exec (.cmd 12 0) (during .ready (.exch (.cmd 12 0) .drain) .low [0]))).isSome = true ∧
    (nextOf (exec (.cmd 12 0) (during .ready (.exch (.cmd 12 0) (.dummy true)) .low [0]))).isSome = true ∧
    (nextOf (exec .cmdApp (during .negotiate (.exch .cmdApp (.frame 5)) .low [0]))).isSome = true ∧
    (nextOf (exec .cmdReset (closing .reset .cmdReset 0x01 0))).isSome = true ∧
    (nextOf (exec (.cmd 1 0) (during .ready (.exch (.cmd 1 0) .token) .low [0xFF]))).isSome = true := by decide

theorem test_input_EventsActOnOwnHandles :
    (nextOf (step atReset)).isSome = true ∧ (nextOf (step (asked readyRun [.construct 7 9]))).isSome = true ∧
    (asked readyRun [.construct 7 9]).host = .construct 7 9 :: [] ∧ (asked readyRun [.get .isV2]).constructsNext = false ∧
    (nextOf (step (asked readyRun [.get .isV2]))).isSome = true := by decide

theorem test_input_FirstCommandFlagIsClearedOnce :
    ∃ s : State, (nextOf (step s)).isSome = true ∧ s.pos = .exch .cmdReset (.frame 5) ∧ s.firstCmdPending = true :=
  ⟨{ during .reset (.exch .cmdReset (.frame 5)) .low [0xFF] with firstCmdPending := true }, by decide⟩

theorem test_input_StickyFlagsStaySet :
    (faultedRun .tTokenReset).Inv ∧ (faultedRun .tTokenReset).timedOut = some true ∧
    (nextOf (step (faultedRun .tTokenReset))).isSome = true :=
  ⟨faultedRun_inv.1, rfl, by decide⟩

theorem test_input_PhaseTransitionsAllowed :
    (queryReady true).Inv ∧ (nextOf (step (queryReady true))).isSome = true :=
  ⟨queryReady_inv true, by decide⟩

/-- A v2 card and one that is not. -/
theorem test_input_RegisterReadNeedsVersionTwo :
    (queryReady true).Inv ∧ (queryReady false).Inv ∧ (nextOf (step (queryReady true))).isSome = true ∧
    (nextOf (step (queryReady false))).isSome = true ∧
    readyResp (queryReady true).params (queryReady true).status (queryReady true).second = true ∧
    (queryReady false).status = 0x00 ∧ (queryReady false).isV2 = some false ∧
    atRegister.Inv ∧ posOf (step atRegister) = some (.exch .cmdReadOcr (.frame 0)) :=
  ⟨queryReady_inv true, queryReady_inv false, by decide, by decide, by decide, by decide, by decide, atRegister_inv,
    by decide⟩

theorem test_input_LaterBytesDecideNothing :
    ∃ s : State, s.pos = .exch (.acmdOpCond 0x40000000) (.release .ok) ∧
      (nextOf (exec (.acmdOpCond 0x40000000) s)).isSome = true :=
  ⟨queryReady true, by decide⟩

theorem test_input_InvariantIsKept :
    atReset.Inv ∧ (nextOf (step atReset)).isSome = true ∧ atRegister.Inv ∧ (nextOf (step atRegister)).isSome = true :=
  ⟨atReset_inv, by decide, atRegister_inv, by decide⟩

theorem test_input_ChipSelectDisciplineIsKept :
    atReset.LineOk ∧ (nextOf (step atReset)).isSome = true :=
  ⟨atReset_inv.1, by decide⟩

theorem test_input_SetupHappensOnce :
    ∃ s : State, s.Inv ∧ s.SetupOnce ∧ (nextOf (step s)).isSome = true :=
  ⟨{ atReset with trace := [.start, .cfgClk 0 0, .cfgOut 0] }, atReset_inv, by
    simp [State.SetupOnce, atReset, during]
    exact ⟨rfl, rfl⟩, by decide⟩

theorem test_input_RunMakesProgress :
    ∃ s : State, s.params.valid = true ∧ s.running ∧ s.pos ≠ .direct ∧ s.envOk = true :=
  ⟨atReset, by decide, by simp [State.running, atReset, during], by decide, by decide⟩

theorem test_input_EventsLeftGoDown :
    atRegister.Inv ∧ atRegister.running ∧ (nextOf (step atRegister)).isSome = true ∧
    (during .reset .cfgClk .unknown []).pos = .cfgClk :=
  ⟨atRegister_inv, by simp [State.running, atRegister, during], by decide, rfl⟩

theorem test_input_RunTerminates :
    atRegister.params.valid = true ∧ atRegister.Inv ∧ atRegister.running ∧ atRegister.conforming = true :=
  ⟨by decide, atRegister_inv, by simp [State.running, atRegister, during], by decide⟩

/-- Program PR3's card: every byte is 0xFF. -/
theorem test_input_AbsentCardTimesOut :
    ∃ (s : State) (bs : List Byte), s.params.valid = true ∧ s.pos = .rest ∧ s.phase = .constructed ∧
      s.firstCmdPending = true ∧ s.host = .callInit :: [] ∧ (∀ b ∈ bs, b.getLsbD 7 = true) ∧
      bs.length = s.params.nIdleHigh + s.params.nIdleLow + 6 + s.params.tokenRetries + 1 ∧
      s.env = bs.map .reply ++ [] :=
  ⟨{ State.reset with host := [.callInit], env := (List.replicate 27 0xFF).map .reply }, List.replicate 27 0xFF,
    by decide⟩

theorem test_input_EnvironmentStopsAreKept :
    atReset.params.valid = true ∧ atReset.running ∧ atReset.pos ≠ .direct ∧ atReset.pos ≠ .done ∧
    { atReset with env := [.hang] }.env = .hang :: [] ∧ { atReset with env := [.reenter] }.env = .reenter :: [] ∧
    { atReset with env := [.otherSession] }.env = .otherSession :: [] :=
  ⟨by decide, by simp [State.running, atReset, during], by decide, by decide, rfl, rfl, rfl⟩

/-- A call that receives no byte, and one that does. -/
theorem test_input_CallTakesItsEntry :
    ∀ q ∈ [Pos.cfgOut, .idleHigh 0, .exch .cmdReset .token, .faultRelease .tTokenReset],
      (during .reset q .high []).params.valid = true ∧ (during .reset q .high []).running ∧
      (during .reset q .high []).pos ≠ .direct ∧ (during .reset q .high []).pos ≠ .done ∧
      { during .reset q .high [] with env := [.returns, .hang] }.env = .returns :: [.hang] ∧
      (during .reset q .high [0xA5]).env = .reply 0xA5 :: [] := by
  intro q hq
  refine ⟨test_default_configuration_is_valid, ?_, ?_, ?_, rfl, rfl⟩ <;>
    fin_cases hq <;> simp [State.running, during]

end Sys2Proof.Tests
end

section
/-! The frame encoder, part by part (R71, R72), and the frame of every command. -/

namespace Sys2Proof

/-- R71: whatever the index is, its bits do not reach the framing bits. -/
@[simp] theorem frame_b0_framingBits (d idx : Byte) (arg : Arg) (first : Bool) :
    (frame d idx arg first).b0.extractLsb' 6 2 = 0b01#2 := by
  have highBits : (0x40 : Byte).extractLsb' 6 2 = 0b01#2 ∧ (0x3F : Byte).extractLsb' 6 2 = 0#2 := by decide
  simp only [frame, BitVec.extractLsb'_or, BitVec.extractLsb'_and, highBits, BitVec.and_zero, BitVec.or_zero]

/-- R71: the index loses its bits above bit 5 and no other. -/
@[simp] theorem frame_b0_indexBits (d idx : Byte) (arg : Arg) (first : Bool) :
    (frame d idx arg first).b0.extractLsb' 0 6 = idx.extractLsb' 0 6 := by
  have lowBits : (0x40 : Byte).extractLsb' 0 6 = 0#6 ∧ (0x3F : Byte).extractLsb' 0 6 = BitVec.allOnes 6 := by decide
  simp only [frame, BitVec.extractLsb'_or, BitVec.extractLsb'_and, lowBits, BitVec.and_allOnes, BitVec.zero_or]

/-- The four bytes of a word, from the most significant down, are the word (R54). -/
theorem append_bytes_eq (w : BitVec 32) :
    w.extractLsb' 24 8 ++ w.extractLsb' 16 8 ++ w.extractLsb' 8 8 ++ w.extractLsb' 0 8 = w := by
  rw [BitVec.extractLsb'_append_extractLsb'_eq_extractLsb' (by rfl : 24 = 16 + 8),
    BitVec.extractLsb'_append_extractLsb'_eq_extractLsb' (by rfl : 16 = 8 + 8),
    BitVec.extractLsb'_append_extractLsb'_eq_extractLsb' (by rfl : 8 = 0 + 8)]
  exact BitVec.extractLsb'_eq_self

/-- R72: no argument bit is altered by the framer. -/
@[simp] theorem frame_argument (d idx : Byte) (arg : Arg) (first : Bool) :
    (frame d idx arg first).b1 ++ (frame d idx arg first).b2 ++ (frame d idx arg first).b3 ++
      (frame d idx arg first).b4 = arg :=
  append_bytes_eq arg

/-- Settles O1: R71's two parts of `f[0]`, the four argument bytes as the framer writes them, and R72's argument. -/
theorem framerEncodesEveryCommand : Obligations.FramerEncodesEveryCommand := fun d idx arg first =>
  ⟨frame_b0_framingBits d idx arg first, frame_b0_indexBits d idx arg first, rfl, rfl, rfl, rfl,
    frame_argument d idx arg first⟩

end Sys2Proof
end

section
/-! The response flags as conditions on bits (R76, R77), and the readiness condition (R78). -/

namespace Sys2Proof.Machine

theorem anyBit_eq_true_iff (b m : Byte) : anyBit b m = true ↔ b &&& m ≠ 0 := bne_iff_ne

theorem anyBit_eq_false_iff (b m : Byte) : anyBit b m = false ↔ b &&& m = 0 := bne_eq_false_iff_eq

/-- R76: the idle flag is clear exactly where bit 0 is. -/
theorem stIdle_eq_false_iff (r0 : Byte) : stIdle r0 = false ↔ r0 &&& 0x01 = 0 := anyBit_eq_false_iff r0 0x01

/-- R77: the busy-cleared flag under the mask of the configuration. -/
theorem ocReady_eq_true_iff (p : Params) (r1 : Byte) : ocReady p r1 = true ↔ r1 &&& p.maskOcrReady ≠ 0 :=
  anyBit_eq_true_iff r1 p.maskOcrReady

/-- R78: readiness in terms of the two flags. -/
theorem readyResp_eq_true_iff (p : Params) (r0 r1 : Byte) :
    readyResp p r0 r1 = true ↔ stIdle r0 = false ∧ ocReady p r1 = true := by
  rw [readyResp, Bool.and_eq_true, Bool.not_eq_true']

/-- Settles O8: the two flags of R78, each as its condition on the masked byte. -/
theorem readinessCondition : Obligations.ReadinessCondition := fun p r0 r1 => by
  rw [readyResp_eq_true_iff, stIdle_eq_false_iff, ocReady_eq_true_iff]

end Sys2Proof.Machine
end

section
/-! What a step does, by position: the event of a command at each place of its exchange (R127), the commands a step
runs, and the sequencer's own events. -/

namespace Sys2Proof.Machine

/-- The release of an exchange hands its result to the issuing rule (R127). -/
theorem exec_of_release {s : State} {j : Instr} {res : ReadResult} (hp : s.pos = .exch j (.release res)) (i : Instr) :
    exec i s = s.perform (closeOf i res (s.closeExchange res)) := by
  rw [exec_eq, exchangeEvent, hp]

/-- A spent token search releases chip-select, and its timeout goes to the issuing rule (R121, R127). -/
theorem exec_of_spent_token {s : State} {j : Instr} (hp : s.pos = .exch j .token)
    (hspent : s.tokenCount = s.params.tokenRetries) (i : Instr) :
    exec i s = s.perform (closeOf i .timeoutToken (s.closeExchange .timeoutToken)) := by
  simp [exec_eq, exchangeEvent, hp, hspent]

/-- Outside an exchange a command opens its own (R127). -/
theorem exec_of_outside {s : State} (hp : ∀ j x, s.pos ≠ .exch j x) (i : Instr) :
    exec i s = s.perform (s.openExchange i (i.index s.params) (i.argument s.params)) := by
  rw [exec_eq]
  unfold exchangeEvent
  split <;> simp_all

/-- The part of the session that R23 to R27 and R32 name: the phase, the flags and the outcome are the same. -/
structure State.SameRecord (s t : State) : Prop where
  phase : t.phase = s.phase
  timedOut : t.timedOut = s.timedOut
  faulted : t.faulted = s.faulted
  isV2 : t.isV2 = s.isV2
  isHighCapacity : t.isHighCapacity = s.isHighCapacity
  outcome : t.outcome = s.outcome

/-- An event of a command either ends the exchange, and the issuing rule decides, or goes on inside the exchange, and
nothing of the session's record changes. -/
theorem exec_cases {i : Instr} {s t : State} (h : exec i s = .next t) :
    (∃ j res, (s.pos = .exch j (.release res) ∨ s.pos = .exch j .token ∧ res = .timeoutToken) ∧
      t = closeOf i res (s.closeExchange res)) ∨
    ((∃ x, t.pos = .exch i x) ∧ s.SameRecord t) := by
  rw [exec_eq] at h
  obtain ⟨_, hframe | htimeout | htoken | hextra | hspent | hdrain | hdummy | hrelease | hopen⟩ :=
    exchangeEvent_next h
  · obtain ⟨j, k, _, rfl⟩ := hframe
    right
    unfold State.frameByteSent
    split
    · exact ⟨⟨_, rfl⟩, by constructor <;> rfl⟩
    · exact ⟨⟨_, rfl⟩, by constructor <;> rfl⟩
  · obtain ⟨j, hp, _, rfl⟩ := htimeout
    exact .inl ⟨j, _, .inr ⟨hp, rfl⟩, rfl⟩
  · obtain ⟨j, _, _, rfl⟩ := htoken
    right
    unfold State.tokenRead
    split
    · exact ⟨⟨_, rfl⟩, by constructor <;> rfl⟩
    · exact ⟨⟨_, rfl⟩, by constructor <;> rfl⟩
  · obtain ⟨j, k, _, rfl⟩ := hextra
    exact .inr ⟨⟨_, rfl⟩, by constructor <;> rfl⟩
  · obtain ⟨j, _, _, rfl⟩ := hspent
    exact .inr ⟨⟨_, rfl⟩, by constructor <;> rfl⟩
  · obtain ⟨j, _, _, rfl⟩ := hdrain
    exact .inr ⟨⟨_, rfl⟩, by constructor <;> rfl⟩
  · obtain ⟨j, c, _, rfl⟩ := hdummy
    exact .inr ⟨⟨_, rfl⟩, by constructor <;> rfl⟩
  · obtain ⟨j, res, hp, rfl⟩ := hrelease
    exact .inl ⟨j, res, .inl hp, rfl⟩
  · obtain ⟨_, rfl⟩ := hopen
    exact .inr ⟨⟨_, rfl⟩, by constructor <;> rfl⟩

/-- What follows the negotiation is no place inside an exchange. -/
theorem afterNegotiation_pos_ne_exch (u : State) (j : Instr) (x : ExchangePos) :
    (afterNegotiation u).pos ≠ .exch j x := by
  unfold afterNegotiation
  split_ifs <;> simp

/-- No issuing rule leads straight into another exchange: `CS(LOW)` comes first (R127). -/
theorem closeOf_pos_ne_exch (i : Instr) (res : ReadResult) (u : State) (j : Instr) (x : ExchangePos) :
    (closeOf i res u).pos ≠ .exch j x := by
  cases res with
  | timeoutToken => cases i <;> exact Pos.noConfusion
  | timeoutBusy => cases i <;> exact Pos.noConfusion
  | ok =>
    cases i with
    | cmdReset => simp only [closeOf, closeReset]; split_ifs <;> simp
    | cmdIfCond => simp only [closeOf, closeIfCond]; split_ifs <;> simp
    | cmdApp => simp [closeOf, closeApp]
    | acmdOpCond arg => simp only [closeOf, closeOpCond]; split_ifs <;> simp [afterNegotiation_pos_ne_exch]
    | cmdReadOcr => simp only [closeOf, closeReadOcr]; split_ifs <;> simp
    | cmd idx arg => simp [closeOf, closeGeneric]

/-- The command `i` that a step at `s` runs, and the state `u` it runs it from. -/
inductive State.Runs (s : State) (i : Instr) : State → Prop
  /-- the sequencer issues it (R79) -/
  | issued {c : SeqPos} {u : State} (hp : s.pos = .command c) (hi : issue c s = .run i u) : s.Runs i u
  /-- the frame buffer holds its frame (log entry 7) -/
  | placed (hp : s.pos = .direct) (hf : directInstr s = .ok i) : s.Runs i s
  /-- its exchange is in progress (R127) -/
  | inside {x : ExchangePos} (hp : s.pos = .exch i x) : s.Runs i s

/-- A loop head writes its counter and nothing else (R160, R166). -/
theorem issue_run_eq {c : SeqPos} {s u : State} {i : Instr} (h : issue c s = .run i u) :
    ∃ n o, u = { s with negAttempts := n, ocrAttempts := o } := by
  cases c with
  | reset => simp only [issue, Issue.run.injEq] at h; exact ⟨_, _, h.2.symm⟩
  | probe => simp only [issue, Issue.run.injEq] at h; exact ⟨_, _, h.2.symm⟩
  | query => simp only [issue, Issue.run.injEq] at h; exact ⟨_, _, h.2.symm⟩
  | attempt =>
    simp only [issue] at h
    split_ifs at h
    cases h
    exact ⟨_, _, rfl⟩
  | register =>
    simp only [issue] at h
    split_ifs at h
    cases h
    exact ⟨_, _, rfl⟩

/-- The register read is issued at its loop's head only (R166). -/
theorem issue_run_cmdReadOcr {c : SeqPos} {s u : State} (h : issue c s = .run .cmdReadOcr u) : c = .register := by
  cases c with
  | register => rfl
  | attempt => simp only [issue] at h; split_ifs at h; cases h
  | _ => cases h

/-- A command runs from the step's state but for the counter that the loop head has written. -/
theorem State.Runs.start_eq {s u : State} {i : Instr} (h : s.Runs i u) :
    ∃ n o, u = { s with negAttempts := n, ocrAttempts := o } := by
  cases h with
  | issued _ hi => exact issue_run_eq hi
  | placed _ _ => exact ⟨_, _, rfl⟩
  | inside _ => exact ⟨_, _, rfl⟩

/-- Inside an exchange a step runs the command of that exchange, from the state as it is. -/
theorem State.Runs.eq_of_exch {s u : State} {i j : Instr} {x : ExchangePos} (h : s.Runs i u)
    (hp : s.pos = .exch j x) : i = j ∧ u = s := by
  cases h with
  | issued hc _ => simp [hp] at hc
  | placed hd _ => simp [hp] at hd
  | inside hx => simp_all

/-- A step serves the caller, runs a command, or is an event of the sequencer's own, which writes neither `is_v2` nor
`is_high_capacity` and does not lead into an exchange. -/
theorem step_cases {s t : State} (h : step s = .next t) :
    (s.pos = .rest ∧ hostStep s = .next t) ∨
    (∃ i u, s.Runs i u ∧ exec i u = .next t) ∨
    ((∀ j x, t.pos ≠ .exch j x) ∧ t.isV2 = s.isV2 ∧ t.isHighCapacity = s.isHighCapacity) := by
  obtain ⟨_, hs⟩ := step_next h
  rcases stepValid_next hs with hrest | ⟨_, hown⟩ | ⟨c, i, u, hp, hi, he⟩ | ⟨i, hp, hf, he⟩ | ⟨i, x, hp, he⟩ | ⟨_, rfl⟩
  · exact .inl hrest
  · right; right
    rcases hown with ⟨_, rfl⟩ | ⟨_, rfl⟩ | ⟨_, rfl⟩ | ⟨_, _, _, rfl⟩ | ⟨_, _, _, rfl⟩ | ⟨_, _, _, rfl⟩ |
      ⟨_, _, _, rfl⟩ | ⟨_, _, _, _, rfl⟩ | ⟨_, _, rfl⟩ | ⟨_, _, rfl⟩ <;> simp [State.faultReleased, State.faultFinished]
  · exact .inr (.inl ⟨i, u, .issued hp hi, he⟩)
  · exact .inr (.inl ⟨i, s, .placed hp hf, he⟩)
  · exact .inr (.inl ⟨i, s, .inside hp, he⟩)
  · simp

/-- The caller's operations lead into no exchange. -/
theorem hostStep_pos_ne_exch {s t : State} (hpos : s.pos = .rest) (h : hostStep s = .next t) (j : Instr)
    (x : ExchangePos) : t.pos ≠ .exch j x := by
  rcases hostStep_next h with ⟨_, rfl⟩ | ⟨cs, bus, rest, _, rfl⟩ | ⟨rest, _, _, rfl⟩ | ⟨rest, _, _, rfl⟩ |
    ⟨a, rest, v, _, _, rfl⟩
  · simp [hpos]
  · exact Pos.noConfusion
  · exact Pos.noConfusion
  · exact Pos.noConfusion
  · simp [hpos]

/-- A step that leads to a place inside an exchange runs that exchange's command, and leaves `is_v2`. -/
theorem step_into_exchange {s t : State} {i : Instr} {x : ExchangePos} (h : step s = .next t)
    (ht : t.pos = .exch i x) : (∃ u, s.Runs i u) ∧ t.isV2 = s.isV2 := by
  rcases step_cases h with ⟨hp, hhost⟩ | ⟨j, u, hr, he⟩ | ⟨hout, _⟩
  · exact absurd ht (hostStep_pos_ne_exch hp hhost i x)
  · rcases exec_cases he with ⟨_, res, _, rfl⟩ | ⟨⟨y, hy⟩, hrec⟩
    · exact absurd ht (closeOf_pos_ne_exch j res _ i x)
    · obtain ⟨rfl, _⟩ : i = j ∧ x = y := by simpa [ht] using hy
      obtain ⟨n, o, hu⟩ := hr.start_eq
      exact ⟨⟨u, hr⟩, hrec.isV2.trans (by rw [hu])⟩
  · exact absurd ht (hout i x)

/-- A step inside an exchange is an event of the exchange's command. -/
theorem step_of_exch {s : State} {i : Instr} {x : ExchangePos} (hv : s.params.valid = true) (hp : s.pos = .exch i x) :
    step s = exec i s := by
  rw [step_of_valid hv, stepValid, hp]

/-- The Faulted procedure's first event is `CS(HIGH)` (R169). -/
theorem step_of_faultRelease {s : State} {c : Cause} (hv : s.params.valid = true) (hp : s.pos = .faultRelease c) :
    step s = s.perform (s.faultReleased c) := by
  rw [step_of_valid hv, stepValid, hp]
  rfl

/-- The Faulted procedure's second event is its dummy byte, with the writes of R169. -/
theorem step_of_faultDummy {s : State} {c : Cause} (hv : s.params.valid = true) (hp : s.pos = .faultDummy c) :
    step s = s.perform (s.faultFinished c) := by
  rw [step_of_valid hv, stepValid, hp]
  rfl

/-- A run ends with `DONE` (R168, R169, R202). -/
theorem step_of_done {s : State} (hv : s.params.valid = true) (hp : s.pos = .done) : step s = .next s.finishRun := by
  rw [step_of_valid hv, stepValid, hp, doneStep]

/-- A byte to come lets the next call return. -/
theorem envOk_of_reply {s : State} {b : Byte} {rest : List EnvAct} (h : s.env = .reply b :: rest) :
    s.envOk = true := by simp [State.envOk, h]

/-- Three events end a run that has raised: the two of the Faulted procedure, and `DONE` (R169). -/
theorem runSteps_of_faultRelease {s : State} {c : Cause} (hv : s.params.valid = true) (hp : s.pos = .faultRelease c)
    (he : s.envOk = true) (he' : (s.faultReleased c).envOk = true) :
    runSteps 3 s = .next ((s.faultReleased c).faultFinished c).finishRun := by
  have hrelease : step s = .next (s.faultReleased c) := (step_of_faultRelease hv hp).trans (perform_of_envOk he _)
  have hdummy : step (s.faultReleased c) = .next ((s.faultReleased c).faultFinished c) :=
    (step_of_faultDummy (s := s.faultReleased c) hv rfl).trans (perform_of_envOk he' _)
  have hdone : step ((s.faultReleased c).faultFinished c) = .next ((s.faultReleased c).faultFinished c).finishRun :=
    step_of_done hv rfl
  rw [runSteps_succ hrelease, runSteps_succ hdummy, runSteps_succ hdone, runSteps]

end Sys2Proof.Machine
end

section
/-! The end of a faulted session (R170). -/

namespace Sys2Proof.Machine

/-- A faulted session at rest serves the caller without a bus event and without a write to its record. -/
theorem hostStep_of_faulted {s t : State} (hph : s.phase = .faulted) (hpos : s.pos = .rest)
    (hc : s.constructsNext = false) (h : hostStep s = .next t) :
    s.SameRecord t ∧ t.firstCmdPending = s.firstCmdPending ∧
    (t.trace = s.trace ∨ t.trace = s.trace ++ [.start]) ∧ (t.pos = .rest ∨ t.pos = .done) := by
  rcases hostStep_next h with ⟨_, rfl⟩ | ⟨cs, bus, rest, hh, rfl⟩ | ⟨rest, _, hph', rfl⟩ | ⟨rest, _, _, rfl⟩ |
    ⟨a, rest, v, _, _, rfl⟩
  · exact ⟨by constructor <;> rfl, rfl, .inl rfl, .inl hpos⟩
  · simp [State.constructsNext, hh] at hc
  · simp [hph] at hph'
  · exact ⟨by constructor <;> rfl, rfl, .inr rfl, .inr rfl⟩
  · exact ⟨by constructor <;> rfl, rfl, .inl rfl, .inl hpos⟩

/-- Settles O20: at rest only the caller acts, and its start operation logs `START`; before `DONE` only `DONE` comes. -/
theorem faultedSessionIsTerminal : Obligations.FaultedSessionIsTerminal := by
  rintro s t hph (hpos | hpos) hc h
  · rw [step_of_valid (step_next h).1, stepValid, hpos] at h
    obtain ⟨hrec, hfirst, htrace, hpos'⟩ := hostStep_of_faulted hph hpos (hc hpos) h
    exact ⟨hrec.phase.trans hph, hpos', htrace.imp_right fun e => ⟨.start, rfl, e⟩, hrec.timedOut, hrec.faulted,
      hrec.isV2, hrec.isHighCapacity, hfirst, hrec.outcome⟩
  · rw [step_of_done (step_next h).1 hpos, Host.Outcome.next.injEq] at h
    subst h
    exact ⟨hph, .inl rfl, .inr ⟨_, rfl, rfl⟩, rfl, rfl, rfl, rfl, rfl, rfl⟩

end Sys2Proof.Machine
end

section
/-! What each decision on a response is, by the case of its rule (R156, R163 to R165, R167). -/

namespace Sys2Proof.Machine

@[simp] theorem closeExchange_status (s : State) (res : ReadResult) : (s.closeExchange res).status = s.status := rfl

@[simp] theorem closeExchange_second (s : State) (res : ReadResult) : (s.closeExchange res).second = s.second := rfl

@[simp] theorem closeExchange_version (s : State) (res : ReadResult) : (s.closeExchange res).version = s.version := rfl

/-- A stored byte reads as its value (R55). -/
theorem status_of_some {s : State} {b : Byte} (h : s.r.r0 = some b) : s.status = b := by simp [State.status, h]

/-- A stored byte reads as its value (R55). -/
theorem second_of_some {s : State} {b : Byte} (h : s.r.r1 = some b) : s.second = b := by simp [State.second, h]

/-- R156: the exact idle status leads to the probe. -/
theorem closeReset_of_idle {s : State} (h : s.status = 0x01) :
    closeReset .ok s = { s with phase := .probe, pos := .command .probe } := by
  simp [closeReset, stIdleExact, h]

/-- R156: any other status is a protocol fault. -/
theorem closeReset_of_not_idle {s : State} (h : s.status ≠ 0x01) : closeReset .ok s = s.raise .fResetStatus := by
  rw [closeReset, stIdleExact, if_neg (mt eq_of_beq h)]

/-- R163: a query response that is not ready leads to another attempt. -/
theorem closeOpCond_of_not_ready {s : State} (h : readyResp s.params s.status s.second = false) :
    closeOpCond .ok s = s.goTo (.command .attempt) := by
  simp [closeOpCond, h]

/-- R164: a ready response with a non-zero status is a protocol fault. -/
theorem closeOpCond_of_status_ne_zero {s : State} (h : readyResp s.params s.status s.second = true)
    (h0 : s.status ≠ 0x00) : closeOpCond .ok s = s.raise .fNegStatus := by
  rw [closeOpCond, if_pos h, afterNegotiation, stZero, if_neg (mt eq_of_beq h0)]

/-- R165: a v2 card's capacity register is read. -/
theorem closeOpCond_of_v2 {s : State} (h : readyResp s.params s.status s.second = true) (h0 : s.status = 0x00)
    (hv : s.version = true) :
    closeOpCond .ok s = { s with phase := .readOcr, ocrAttempts := some 0, pos := .command .register } := by
  rw [closeOpCond, if_pos h, afterNegotiation, stZero, h0, if_pos (by decide), if_pos hv]

/-- R165: any other card is ready. -/
theorem closeOpCond_of_not_v2 {s : State} (h : readyResp s.params s.status s.second = true) (h0 : s.status = 0x00)
    (hv : s.version = false) : closeOpCond .ok s = s.finish := by
  rw [closeOpCond, if_pos h, afterNegotiation, stZero, h0, if_pos (by decide), hv]
  rfl

/-- R167: a ready register read writes the capacity bit. -/
theorem closeReadOcr_of_ready {s : State} (h : readyResp s.params s.status s.second = true) :
    closeReadOcr .ok s = State.finish { s with isHighCapacity := some (ocCcs s.params s.second) } := by
  simp [closeReadOcr, h]

end Sys2Proof.Machine
end

section
/-! The only write of `is_high_capacity` (R167). -/

namespace Sys2Proof.Machine

/-- Every other decision on a result leaves `is_high_capacity` (R167). -/
theorem closeOf_isHighCapacity {i : Instr} {res : ReadResult} {u : State}
    (h : ¬(i = .cmdReadOcr ∧ res = .ok ∧ readyResp u.params u.status u.second = true)) :
    (closeOf i res u).isHighCapacity = u.isHighCapacity := by
  cases res with
  | timeoutToken => cases i <;> rfl
  | timeoutBusy => cases i <;> rfl
  | ok =>
    cases i with
    | cmdReset => simp only [closeOf, closeReset]; split_ifs <;> rfl
    | cmdIfCond => simp only [closeOf, closeIfCond]; split_ifs <;> rfl
    | cmdApp => rfl
    | acmdOpCond arg => simp only [closeOf, closeOpCond, afterNegotiation]; split_ifs <;> rfl
    | cmdReadOcr => simp_all [closeOf, closeReadOcr]
    | cmd idx arg => rfl

/-- The caller's operations leave `is_high_capacity`, a new session aside (R152, R200). -/
theorem hostStep_isHighCapacity {s t : State} (hc : s.constructsNext = false) (h : hostStep s = .next t) :
    t.isHighCapacity = s.isHighCapacity := by
  rcases hostStep_next h with ⟨_, rfl⟩ | ⟨cs, bus, rest, hh, rfl⟩ | ⟨rest, _, _, rfl⟩ | ⟨rest, _, _, rfl⟩ |
    ⟨a, rest, v, _, _, rfl⟩
  · rfl
  · simp [State.constructsNext, hh] at hc
  · rfl
  · rfl
  · rfl

/-- A command event other than a ready register read's release leaves `is_high_capacity`. -/
theorem exec_isHighCapacity {s u t : State} {i : Instr} (hr : s.Runs i u)
    (hn : ¬(s.pos = .exch .cmdReadOcr (.release .ok) ∧ readyResp s.params s.status s.second = true))
    (h : exec i u = .next t) : t.isHighCapacity = s.isHighCapacity := by
  obtain ⟨n, o, rfl⟩ := hr.start_eq
  rcases exec_cases h with ⟨j, res, hp, rfl⟩ | ⟨_, hrec⟩
  · refine closeOf_isHighCapacity ?_
    rintro ⟨rfl, rfl, hready⟩
    rcases hp with hp | ⟨_, hres⟩
    · obtain ⟨rfl, _⟩ := hr.eq_of_exch hp
      exact hn ⟨hp, hready⟩
    · cases hres
  · exact hrec.isHighCapacity

/-- Settles O35: the release of a ready register read is the flag's write; the caller, the other events of a command
and the sequencer's own events leave it. -/
theorem capacityFlagHasOneWriter : Obligations.CapacityFlagHasOneWriter := by
  refine fun s t h => ⟨fun hp hready => ?_, fun hc hn => ?_⟩
  · rw [step_of_exch (step_next h).1 hp, exec_of_release hp] at h
    obtain ⟨_, rfl⟩ := (perform_eq_next_iff _ _ _).1 h
    rw [closeOf, closeReadOcr_of_ready (by simpa using hready)]
    rfl
  · rcases step_cases h with ⟨hp, hhost⟩ | ⟨i, u, hr, he⟩ | ⟨_, _, hcap⟩
    · exact hostStep_isHighCapacity (hc hp) hhost
    · exact exec_isHighCapacity hr hn he
    · exact hcap

end Sys2Proof.Machine
end

section
/-! The register read is a v2 card's only (R165). -/

namespace Sys2Proof.Machine

/-- In the register read's phase the card is v2. -/
theorem State.Inv.isV2_of_readOcr {s : State} (hi : s.Inv) (hp : posPhase s.pos = some .readOcr) :
    s.isV2 = some true := by
  obtain ⟨_, ⟨hphase, _⟩, _, ⟨_, hversion, _⟩, _⟩ := hi
  exact hversion (hphase _ hp)

/-- In a session the register read is run in its own phase only. -/
theorem State.Runs.posPhase_of_cmdReadOcr {s u : State} (hi : s.Inv) (hr : s.Runs .cmdReadOcr u) :
    posPhase s.pos = some .readOcr := by
  obtain ⟨_, ⟨_, _, _, hdirect, _⟩, _⟩ := hi
  cases hr with
  | issued hp hiss => rw [hp, issue_run_cmdReadOcr hiss]; rfl
  | placed hp _ => exact absurd hp hdirect
  | inside hp => rw [hp]; rfl

/-- Settles O43: the invariant makes the card v2 wherever the register read is run; after a successful negotiation
R165's gate reads the written flag. -/
theorem registerReadNeedsVersionTwo : Obligations.RegisterReadNeedsVersionTwo := by
  refine fun s t hi h => ⟨?_, fun arg hp hready h0 => ?_⟩
  · rintro ⟨x, hx⟩
    obtain ⟨⟨u, hr⟩, hv2⟩ := step_into_exchange h hx
    exact hv2.trans (hi.isV2_of_readOcr (hr.posPhase_of_cmdReadOcr hi))
  · rw [step_of_exch (step_next h).1 hp, exec_of_release hp] at h
    obtain ⟨_, rfl⟩ := (perform_eq_next_iff _ _ _).1 h
    refine ⟨fun hv => ?_, fun hv => ?_⟩
    · rw [closeOf, closeOpCond_of_v2 (s := s.closeExchange .ok) hready h0 (version_of_some hv)]
      exact ⟨rfl, rfl⟩
    · rw [closeOf, closeOpCond_of_not_v2 (s := s.closeExchange .ok) hready h0 (version_of_some hv)]
      exact ⟨rfl, rfl, rfl⟩

end Sys2Proof.Machine
end

section
/-! The reset command: its exchange, its status test, and the end of a run that faults there (R156, R169). -/

namespace Sys2Proof.Machine

/-- R156: in a session the reset command's frame is the first, and carries the fixed checksum. -/
theorem step_issues_reset {s : State} (he : s.envOk = true) (hv : s.params.valid = true) (hi : s.Inv)
    (hp : s.pos = .command .reset) :
    step s = .next (s.openExchange .cmdReset s.params.idxReset 0) ∧ s.firstCmdPending = true := by
  obtain ⟨_, _, _, _, _, ⟨hfirst, _⟩, _⟩ := hi
  refine ⟨?_, by rw [hfirst, State.beforeFirstFrame, hp]⟩
  have hissue : step s = exec .cmdReset s := by rw [step_of_valid hv, stepValid, hp]; rfl
  rw [hissue, exec_of_outside (by simp [hp]), perform_of_envOk he]
  rfl

/-- R156: at the release a status that is not the exact idle status raises. -/
theorem exec_cmdReset_of_not_idle {s : State} {b : Byte} (he : s.envOk = true)
    (hp : s.pos = .exch .cmdReset (.release .ok)) (hr : s.r.r0 = some b) (hb : b ≠ 0x01) :
    exec .cmdReset s = .next ((s.closeExchange .ok).raise .fResetStatus) := by
  rw [exec_of_release hp, perform_of_envOk he, closeOf, closeReset_of_not_idle]
  rwa [closeExchange_status, status_of_some hr]

/-- R169, R32: a protocol fault leaves `timed_out` clear, and the outcome is FAULTED. -/
theorem faultFinished_of_protocol {s : State} {c : Cause} (hc : c.isTimeout = false) (hto : s.timedOut = some false) :
    (s.faultFinished c).outcome = .faulted ∧ (s.faultFinished c).timedOut = some false := by
  simp [State.faultFinished, hc, hto, hasTimedOut_of_some hto]

/-- R169: the end of a run that has raised a protocol fault; no other frame is formed. -/
theorem runSteps_of_protocol_fault {s : State} {c : Cause} {d : Byte} {rest : List EnvAct}
    (hv : s.params.valid = true) (hp : s.pos = .faultRelease c) (hc : c.isTimeout = false)
    (hto : s.timedOut = some false) (hd : s.env = .reply d :: rest) :
    ∃ t, runSteps 3 s = .next t ∧ t.pos = .rest ∧ t.phase = s.phase ∧ t.outcome = .faulted ∧
      t.faulted = some true ∧ t.timedOut = some false ∧ t.f = s.f := by
  have hd' : (s.faultReleased c).env = .reply d :: rest := (envReturned_of_reply hd).trans hd
  obtain ⟨houtcome, htimed⟩ := faultFinished_of_protocol (s := s.faultReleased c) hc hto
  exact ⟨_, runSteps_of_faultRelease hv hp (envOk_of_reply hd) (envOk_of_reply hd'), rfl, rfl, houtcome, rfl, htimed,
    rfl⟩

/-- R156, R169: a run whose reset status is not the exact idle status has faulted four events later. -/
theorem runSteps_of_reset_fault {s : State} {b d : Byte} {rest : List EnvAct} (hv : s.params.valid = true)
    (hp : s.pos = .exch .cmdReset (.release .ok)) (hr : s.r.r0 = some b) (hb : b ≠ 0x01)
    (hto : s.timedOut = some false) (hd : s.env = .reply d :: rest) :
    ∃ t, runSteps 4 s = .next t ∧ t.pos = .rest ∧ t.phase = .faulted ∧ t.outcome = .faulted ∧
      t.faulted = some true ∧ t.timedOut = some false ∧ t.f = s.f := by
  have hclose : step s = .next ((s.closeExchange .ok).raise .fResetStatus) := by
    rw [step_of_exch hv hp, exec_cmdReset_of_not_idle (envOk_of_reply hd) hp hr hb]
  rw [runSteps_succ hclose]
  exact runSteps_of_protocol_fault hv rfl rfl hto ((envReturned_of_reply hd).trans hd)

/-- Settles O28: the exchange opened is the session's first, and the spent token search and the release are R156's
decision. -/
theorem resetCommandDecides : Obligations.ResetCommandDecides := by
  refine fun s he => ⟨fun hv hi hp => ?_, fun hp hspent => ?_, fun hp hr => ?_, fun b hp hr hb => ?_,
    fun b d rest hv hp hr hb hto hd => runSteps_of_reset_fault hv hp hr hb hto hd⟩
  · obtain ⟨hstep, hfirst⟩ := step_issues_reset he hv hi hp
    exact ⟨_, hstep, rfl, rfl, by rw [State.openExchange_f, hfirst]⟩
  · rw [exec_of_spent_token hp (tokenCount_of_some hspent), perform_of_envOk he]
    rfl
  · rw [exec_of_release hp, perform_of_envOk he, closeOf,
      closeReset_of_idle (s := s.closeExchange .ok) (status_of_some hr)]
    rfl
  · rw [exec_cmdReset_of_not_idle he hp hr hb]
    rfl

end Sys2Proof.Machine
end

section
/-! The query's response (R163, R164). -/

namespace Sys2Proof.Machine

/-- Settles O32: CMD_APP leads to the query whatever its response, and the query's response is split along R163's
readiness, R164's status test and R165's gate. -/
theorem queryResponseDecides : Obligations.QueryResponseDecides := by
  refine fun s arg b0 b1 he h0 h1 => ⟨fun hp => ⟨_, (exec_of_release hp _).trans (perform_of_envOk he _), rfl⟩,
    fun hp => ?_⟩
  have hstatus : (s.closeExchange .ok).status = b0 := status_of_some h0
  have hready : readyResp s.params (s.closeExchange .ok).status (s.closeExchange .ok).second = true ↔
      b0 &&& 0x01 = 0 ∧ b1 &&& s.params.maskOcrReady ≠ 0 := by
    rw [hstatus, closeExchange_second, second_of_some h1]
    exact readinessCondition s.params b0 b1
  rw [exec_of_release hp, perform_of_envOk he, closeOf]
  split_ifs with hr hne hv
  · rw [closeOpCond_of_status_ne_zero (s := s.closeExchange .ok) (hready.2 hr) (by rwa [hstatus])]
    rfl
  · rw [closeOpCond_of_v2 (s := s.closeExchange .ok) (hready.2 hr) (hstatus.trans (not_not.1 hne)) hv]
    rfl
  · rw [closeOpCond_of_not_v2 (s := s.closeExchange .ok) (hready.2 hr) (hstatus.trans (not_not.1 hne))
      (Bool.eq_false_iff.2 hv)]
    rfl
  · rw [closeOpCond_of_not_ready (s := s.closeExchange .ok) (Bool.eq_false_iff.2 (mt hready.1 hr))]
    rfl

end Sys2Proof.Machine
end

section
/-! The decoder inverts the framer (R104), and the rows of the table (log entry 13). -/

namespace Sys2Proof

/-- R104: the framing bits of the framer's output are valid. -/
@[simp] theorem decodeFrame_frame_valid (d idx : Byte) (arg : Arg) (first : Bool) :
    (decodeFrame (frame d idx arg first)).valid = true := by
  rw [decodeFrame, frame_b0_framingBits]
  rfl

/-- R104: the framing bits are masked out of the index again. -/
@[simp] theorem decodeFrame_frame_idx (d idx : Byte) (arg : Arg) (first : Bool) :
    (decodeFrame (frame d idx arg first)).idx = idx &&& 0x3F := by
  have framingMasked : (0x40 : Byte) &&& 0x3F = 0#8 := by decide
  simp only [decodeFrame, frame, BitVec.and_or_distrib_right, BitVec.and_assoc, BitVec.and_self, framingMasked,
    BitVec.zero_or]

@[simp] theorem decodeFrame_frame_arg (d idx : Byte) (arg : Arg) (first : Bool) :
    (decodeFrame (frame d idx arg first)).arg = arg := frame_argument d idx arg first

/-- R100: an index in the contract range has no bit above bit 5. -/
theorem and_indexMask_of_lt {idx : Byte} (h : idx < 64) : idx &&& 0x3F = idx := by
  refine BitVec.eq_of_toNat_eq ?_
  rw [BitVec.toNat_and, show (0x3F : Byte).toNat = 2 ^ 6 - 1 from rfl, Nat.and_two_pow_sub_one_eq_mod]
  exact Nat.mod_eq_of_lt (by simpa [BitVec.lt_def] using h)

/-- Settles O3: the parts of the framer's output, read back one by one. -/
theorem decodeFrameInvertsFramer : Obligations.DecodeFrameInvertsFramer := fun d idx arg first =>
  ⟨decodeFrame_frame_valid d idx arg first, decodeFrame_frame_idx d idx arg first,
    fun h => (decodeFrame_frame_idx d idx arg first).trans (and_indexMask_of_lt h),
    decodeFrame_frame_arg d idx arg first, rfl⟩

/-- The decoder reads six bytes as one frame (R70). -/
theorem decode_bytes (p : Params) (f : Frame) : decode p f.bytes = decodeInstr p f := rfl

/-- Settles O4: `decodeInstr` tests the framing bits, and the framer's are always 01. -/
theorem otherFramingBitsAreNoCommand : Obligations.OtherFramingBitsAreNoCommand := by
  refine fun f h => ⟨fun p => ?_, ?_⟩
  · have hinvalid : (decodeFrame f).valid = false := beq_eq_false_iff_ne.2 h
    rw [decode_bytes, decodeInstr, hinvalid]
    rfl
  · rintro d idx arg first rfl
    exact h (frame_b0_framingBits d idx arg first)

/-- What holds of every instruction as syntax. -/
theorem Laws.IndexAndShape.all (i : Instr) : Laws.IndexAndShape.Statement i := by
  cases i with
  | cmdReset => exact cmdReset
  | cmdIfCond => exact cmdIfCond
  | cmdApp => exact cmdApp
  | acmdOpCond arg => exact acmdOpCond arg
  | cmdReadOcr => exact cmdReadOcr
  | cmd idx arg => exact cmd idx arg

/-- Under a valid configuration a well-formed instruction's index is in the contract range (R7, R100). -/
theorem index_lt_of_wf {p : Params} {i : Instr} (hv : p.valid = true) (hw : i.wf p = true) : i.index p < 64 :=
  ((Laws.IndexAndShape.all i).1 p hv hw).1

/-- A well-formed instruction is the first row that its index and argument match. -/
theorem rowOf_index_argument {p : Params} {i : Instr} (hw : i.wf p = true) :
    rowOf p (i.index p) (i.argument p) = i := by
  cases i with
  | cmdReset => simp [rowOf, Instr.index, Instr.argument, isReset]
  | cmdIfCond => simp_all [rowOf, Instr.wf, Instr.index, Instr.argument, isIfCond]
  | cmdApp => simp_all [rowOf, Instr.wf, Instr.index, Instr.argument, isApp]
  | acmdOpCond arg => simp_all [rowOf, Instr.wf, Instr.index, Instr.argument, isOpCond]
  | cmdReadOcr => simp_all [rowOf, Instr.wf, Instr.index, Instr.argument, isReadOcr]
  | cmd idx arg => simp_all [rowOf, Instr.wf, Instr.index, Instr.argument]

/-- Settles O5: the frame's fields are the instruction's index and argument, and the row that they match first is the
instruction. -/
theorem decodeEncodeRoundTrip : Obligations.DecodeEncodeRoundTrip := by
  intro p first i hv hw
  rw [decode_bytes, decodeInstr, encode, decodeFrame_frame_valid, if_pos rfl, decodeFrame_frame_idx,
    decodeFrame_frame_arg, and_indexMask_of_lt (index_lt_of_wf hv hw), rowOf_index_argument hw]

/-- The row that names a frame has its index and argument, and no earlier row has them (R79, R81). -/
theorem rowOf_spec (p : Params) {idx : Byte} (arg : Arg) (h : idx < 64) :
    (rowOf p idx arg).wf p = true ∧ (rowOf p idx arg).index p = idx ∧ (rowOf p idx arg).argument p = arg := by
  unfold rowOf
  split_ifs with hreset hif happ hop hocr
  · simp_all [Instr.wf, Instr.index, Instr.argument, isReset]
  · obtain ⟨rfl, rfl⟩ : idx = p.idxIfCond ∧ arg = p.checkArg := by simpa [isIfCond] using hif
    simp_all [Instr.wf, Instr.index, Instr.argument]
  · obtain ⟨rfl, rfl⟩ : idx = p.idxAppCmd ∧ arg = 0 := by simpa [isApp] using happ
    simp_all [Instr.wf, Instr.index, Instr.argument]
  · obtain rfl : idx = p.idxAppOpCond := by simpa [isOpCond] using hop
    simp_all [Instr.wf, Instr.index, Instr.argument]
  · obtain ⟨rfl, rfl⟩ : idx = p.idxReadOcr ∧ arg = 0 := by simpa [isReadOcr] using hocr
    simp_all [Instr.wf, Instr.index, Instr.argument]
  · simp_all [Instr.wf, Instr.index, Instr.argument, isIndex]

/-- The index that `DECODE_FRAME` answers has six bits (R104). -/
theorem decodeFrame_idx_lt (f : Frame) : (decodeFrame f).idx < 64 := by
  rw [BitVec.lt_def, decodeFrame, BitVec.toNat_and]
  exact Nat.lt_of_le_of_lt Nat.and_le_right (by decide)

/-- A byte with the framing bits 01 is those bits and its own index (R71). -/
theorem framingBits_or_index {b : Byte} (h : b.extractLsb' 6 2 = 0b01#2) :
    0x40 ||| (b &&& 0x3F &&& 0x3F) = b := by
  revert b
  decide

/-- The bytes of a word that is put together from four bytes are these (R54). -/
theorem extractLsb'_append_bytes (b1 b2 b3 b4 : Byte) :
    (b1 ++ b2 ++ b3 ++ b4).extractLsb' 24 8 = b1 ∧ (b1 ++ b2 ++ b3 ++ b4).extractLsb' 16 8 = b2 ∧
    (b1 ++ b2 ++ b3 ++ b4).extractLsb' 8 8 = b3 ∧ (b1 ++ b2 ++ b3 ++ b4).extractLsb' 0 8 = b4 := by
  refine ⟨?_, ?_, ?_, BitVec.extractLsb'_append_eq_right⟩
  · rw [BitVec.extractLsb'_append_eq_of_le (by decide), BitVec.extractLsb'_append_eq_of_le (by decide)]
    exact BitVec.extractLsb'_append_eq_left
  · rw [BitVec.extractLsb'_append_eq_of_le (by decide), BitVec.extractLsb'_append_eq_of_le (by decide)]
    exact BitVec.extractLsb'_append_eq_right
  · rw [BitVec.extractLsb'_append_eq_of_le (by decide)]
    exact BitVec.extractLsb'_append_eq_right

/-- R71, R72: the framer forms a frame with the framing bits 01 again from its fields, the checksum aside. -/
theorem frame_of_fields {f : Frame} (h : f.b0.extractLsb' 6 2 = 0b01#2) (d : Byte) (first : Bool) :
    (frame d (decodeFrame f).idx (decodeFrame f).arg first).b0 = f.b0 ∧
    (frame d (decodeFrame f).idx (decodeFrame f).arg first).b1 = f.b1 ∧
    (frame d (decodeFrame f).idx (decodeFrame f).arg first).b2 = f.b2 ∧
    (frame d (decodeFrame f).idx (decodeFrame f).arg first).b3 = f.b3 ∧
    (frame d (decodeFrame f).idx (decodeFrame f).arg first).b4 = f.b4 :=
  ⟨framingBits_or_index h, extractLsb'_append_bytes f.b1 f.b2 f.b3 f.b4⟩

/-- Settles O6: the row found for the frame's fields is well formed, and the framer makes the frame of these fields. -/
theorem everyFrameIsItsInstruction : Obligations.EveryFrameIsItsInstruction := by
  intro p f first _ h
  obtain ⟨hwf, hidx, harg⟩ := rowOf_spec p (decodeFrame f).arg (decodeFrame_idx_lt f)
  have hvalid : (decodeFrame f).valid = true := beq_iff_eq.2 h
  refine ⟨_, by rw [decode_bytes, decodeInstr, if_pos hvalid], hwf, ?_⟩
  rw [encode, hidx, harg]
  exact frame_of_fields h p.dummyCrc first

/-- Settles O2: R73 chooses the checksum byte by the flag alone. -/
theorem checksumMarksFirstCommand : Obligations.ChecksumMarksFirstCommand := by
  intro d idx arg first hd
  cases first with
  | true => simp [frame]
  | false => simpa [frame] using hd

/-- Settles O7: the decoder is run on the nine words. -/
theorem opcodeTableWordsDecode : Obligations.OpcodeTableWordsDecode := by
  unfold Obligations.OpcodeTableWordsDecode
  decide

/-- R7's "one bit set", for a byte. -/
theorem isMaskByte_eq_true_iff (m : Byte) : isMaskByte m = true ↔ ∃ k, k < 8 ∧ m = 1#8 <<< k := by
  simp only [isMaskByte, List.any_eq_true, List.mem_range, beq_iff_eq]

/-- R7's "exactly one bit set", for an argument. -/
theorem isMaskArg_eq_true_iff (m : Arg) : isMaskArg m = true ↔ ∃ k, k < 32 ∧ m = 1#32 <<< k := by
  simp only [isMaskArg, List.any_eq_true, List.mem_range, beq_iff_eq]

theorem isIndex_eq_true_iff (i : Byte) : isIndex i = true ↔ i < 64 := decide_eq_true_iff

end Sys2Proof
end

section
/-! The configuration is tested by `step` itself, and by nothing that it calls (R8). -/

namespace Sys2Proof.Machine

/-- Every event of a command is a collaborator call (R208, R209). -/
theorem exec_eq_perform (i : Instr) (s : State) : ∃ t, exec i s = s.perform t := by
  rw [exec_eq, exchangeEvent]
  cases s.pos with
  | exch j x =>
    cases x with
    | token => dsimp only; split <;> exact ⟨_, rfl⟩
    | drain => dsimp only; split <;> exact ⟨_, rfl⟩
    | _ => exact ⟨_, rfl⟩
  | _ => exact ⟨_, rfl⟩

/-- Whether a collaborator call returns depends on the environment's script only. -/
theorem perform_congr {s u : State} (h : u.env = s.env) (t : State) : u.perform t = s.perform t := by
  rw [State.perform, State.perform, h]

/-- In a run every step but `DONE` is a collaborator call; a placed frame may be none of the block's (log entry 7). -/
theorem stepValid_eq_perform {s : State} (hrest : s.pos ≠ .rest) (hdirect : s.pos ≠ .direct) (hdone : s.pos ≠ .done) :
    ∃ t, stepValid s = s.perform t := by
  rw [stepValid]
  cases hp : s.pos with
  | rest => exact absurd hp hrest
  | direct => exact absurd hp hdirect
  | done => exact absurd hp hdone
  | idleHigh k => dsimp only [idleHighStep]; split <;> exact ⟨_, rfl⟩
  | idleLow k => dsimp only [idleLowStep]; split <;> exact ⟨_, rfl⟩
  | command c =>
    dsimp only
    cases hs : issue c s with
    | run i u =>
      obtain ⟨t, ht⟩ := exec_eq_perform i u
      obtain ⟨n, o, rfl⟩ := issue_run_eq hs
      exact ⟨t, ht.trans (perform_congr rfl t)⟩
    | stop cause => exact ⟨_, perform_congr rfl _⟩
  | exch i x => exact exec_eq_perform i s
  | _ => exact ⟨_, rfl⟩

/-- No collaborator call is refused for the configuration. -/
theorem perform_ne_badConfiguration (s t : State) : s.perform t ≠ .refused .badConfiguration := by
  unfold State.perform
  split <;> simp

/-- No operation of the caller is refused for the configuration. -/
theorem hostStep_ne_badConfiguration (s : State) : hostStep s ≠ .refused .badConfiguration := by
  unfold hostStep
  split
  · simp
  · simp
  · unfold startStep; split <;> simp
  · unfold accessorStep; split <;> simp

/-- Past the test of `step` nothing is refused for the configuration. -/
theorem stepValid_ne_badConfiguration (s : State) : stepValid s ≠ .refused .badConfiguration := by
  by_cases hrest : s.pos = .rest
  · rw [stepValid, hrest]
    exact hostStep_ne_badConfiguration s
  by_cases hdone : s.pos = .done
  · simp [stepValid, hdone, doneStep]
  by_cases hdirect : s.pos = .direct
  · rw [stepValid, hdirect]
    dsimp only
    split
    · rename_i i _
      obtain ⟨t, ht⟩ := exec_eq_perform i s
      exact ht ▸ perform_ne_badConfiguration s t
    · simp
  · obtain ⟨t, ht⟩ := stepValid_eq_perform hrest hdirect hdone
    exact ht ▸ perform_ne_badConfiguration s t

theorem step_eq_badConfiguration_iff (s : State) : step s = .refused .badConfiguration ↔ s.params.valid ≠ true := by
  unfold step
  split
  · simp [stepValid_ne_badConfiguration, *]
  · simp [*]

/-- Settles O13: `step` refuses exactly where `Params.valid` fails, which is the list of R7's constraints. -/
theorem badConfigurationIsRefused : Obligations.BadConfigurationIsRefused := by
  intro s
  rw [step_eq_badConfiguration_iff, ne_eq, not_iff_not]
  simp only [Params.valid, List.all_cons, List.all_nil, Bool.and_eq_true, id, isIndex_eq_true_iff,
    isMaskArg_eq_true_iff, isMaskByte_eq_true_iff, beq_iff_eq, bne_iff_ne, decide_eq_true_eq, and_true]

end Sys2Proof.Machine
end

section
/-! What an event of an exchange and an event of the sequencer's own can be, case by case, and what a step can do. -/

namespace Sys2Proof.Machine

/-- The event of the command `i` at a place of an exchange, and the state it leads to (R101, R121 to R127). -/
inductive ExchangeEvent (i : Instr) (s : State) : ExchangePos → State → Prop
  | frame (k : Fin 6) : ExchangeEvent i s (.frame k) (s.frameByteSent i k)
  | token (hleft : s.tokenCount ≠ s.params.tokenRetries) :
    ExchangeEvent i s .token (s.tokenRead i (instrShape s.shape i))
  | tokenSpent (hspent : s.tokenCount = s.params.tokenRetries) :
    ExchangeEvent i s .token (closeOf i .timeoutToken (s.closeExchange .timeoutToken))
  | extra (k : Fin 4) : ExchangeEvent i s (.extra k) (s.extraRead i (instrShape s.shape i) k)
  | drain (hleft : s.busyCount ≠ s.params.busyRetries) : ExchangeEvent i s .drain (s.drainRead i)
  | drainSpent (hspent : s.busyCount = s.params.busyRetries) : ExchangeEvent i s .drain (s.dummySent i false)
  | dummy (cleared : Bool) : ExchangeEvent i s (.dummy cleared) (s.dummySent i cleared)
  | release (res : ReadResult) : ExchangeEvent i s (.release res) (closeOf i res (s.closeExchange res))

/-- A command opens its exchange or goes on with the one in progress (R127). -/
theorem exec_next {i : Instr} {s t : State} (h : exec i s = .next t) :
    ((∀ j x, s.pos ≠ .exch j x) ∧ t = s.openExchange i (i.index s.params) (i.argument s.params)) ∨
    ∃ j x, s.pos = .exch j x ∧ ExchangeEvent i s x t := by
  rw [exec_eq] at h
  obtain ⟨_, hframe | htimeout | htoken | hextra | hspent | hdrain | hdummy | hrelease | hopen⟩ :=
    exchangeEvent_next h
  · obtain ⟨j, k, hp, rfl⟩ := hframe
    exact .inr ⟨j, _, hp, .frame k⟩
  · obtain ⟨j, hp, hs, rfl⟩ := htimeout
    exact .inr ⟨j, _, hp, .tokenSpent hs⟩
  · obtain ⟨j, hp, hl, rfl⟩ := htoken
    exact .inr ⟨j, _, hp, .token hl⟩
  · obtain ⟨j, k, hp, rfl⟩ := hextra
    exact .inr ⟨j, _, hp, .extra k⟩
  · obtain ⟨j, hp, hs, rfl⟩ := hspent
    exact .inr ⟨j, _, hp, .drainSpent hs⟩
  · obtain ⟨j, hp, hl, rfl⟩ := hdrain
    exact .inr ⟨j, _, hp, .drain hl⟩
  · obtain ⟨j, c, hp, rfl⟩ := hdummy
    exact .inr ⟨j, _, hp, .dummy c⟩
  · obtain ⟨j, res, hp, rfl⟩ := hrelease
    exact .inr ⟨j, _, hp, .release res⟩
  · exact .inl hopen

/-- An event of the sequencer's own, outside every command (R153 to R155, R160, R166, R169). -/
inductive SequencerEvent (s : State) : State → Prop
  | cfgClk (hp : s.pos = .cfgClk) : SequencerEvent s (s.configureClock.goTo .cfgOut)
  | cfgOut (hp : s.pos = .cfgOut) : SequencerEvent s (s.configureLine.goTo .csFirst)
  | csFirst (hp : s.pos = .csFirst) : SequencerEvent s ((s.driveCs .high).goTo (.idleHigh 0))
  | idleHigh {k : Nat} (hp : s.pos = .idleHigh k) (hk : k < s.params.nIdleHigh) :
    SequencerEvent s ((s.exchangeByte s.params.fill).goTo (.idleHigh (k + 1)))
  | assertLine {k : Nat} (hp : s.pos = .idleHigh k) : SequencerEvent s ((s.driveCs .low).goTo (.idleLow 0))
  | idleLow {k : Nat} (hp : s.pos = .idleLow k) (hk : k < s.params.nIdleLow) :
    SequencerEvent s ((s.exchangeByte s.params.fill).goTo (.idleLow (k + 1)))
  | releaseLine {k : Nat} (hp : s.pos = .idleLow k) : SequencerEvent s ((s.driveCs .high).goTo (.command .reset))
  | spentBudget {c : SeqPos} {cause : Cause} (hp : s.pos = .command c) (hi : issue c s = .stop cause) :
    SequencerEvent s ((s.raise cause).faultReleased cause)
  | faultRelease {c : Cause} (hp : s.pos = .faultRelease c) : SequencerEvent s (s.faultReleased c)
  | faultDummy {c : Cause} (hp : s.pos = .faultDummy c) : SequencerEvent s (s.faultFinished c)

/-- A step serves the caller, is an event of the sequencer's own, opens the exchange of a command, goes on inside an
exchange, or is `DONE`. -/
theorem step_event {s t : State} (h : step s = .next t) :
    (s.pos = .rest ∧ hostStep s = .next t) ∨
    SequencerEvent s t ∨
    (∃ i u, s.Runs i u ∧ (∀ j x, s.pos ≠ .exch j x) ∧
      t = u.openExchange i (i.index u.params) (i.argument u.params)) ∨
    (∃ i x, s.pos = .exch i x ∧ ExchangeEvent i s x t) ∨
    (s.pos = .done ∧ t = s.finishRun) := by
  obtain ⟨_, hs⟩ := step_next h
  rcases stepValid_next hs with hrest | ⟨_, hown⟩ | ⟨c, i, u, hp, hi, he⟩ | ⟨i, hp, hf, he⟩ | ⟨i, x, hp, he⟩ | hdone
  · exact .inl hrest
  · right; left
    rcases hown with ⟨hp, rfl⟩ | ⟨hp, rfl⟩ | ⟨hp, rfl⟩ | ⟨k, hp, hk, rfl⟩ | ⟨k, hp, _, rfl⟩ | ⟨k, hp, hk, rfl⟩ |
      ⟨k, hp, _, rfl⟩ | ⟨c, cause, hp, hi, rfl⟩ | ⟨c, hp, rfl⟩ | ⟨c, hp, rfl⟩
    · exact .cfgClk hp
    · exact .cfgOut hp
    · exact .csFirst hp
    · exact .idleHigh hp hk
    · exact .assertLine hp
    · exact .idleLow hp hk
    · exact .releaseLine hp
    · exact .spentBudget hp hi
    · exact .faultRelease hp
    · exact .faultDummy hp
  · have hupos : u.pos = .command c := by
      obtain ⟨n, o, rfl⟩ := issue_run_eq hi
      exact hp
    rcases exec_next he with ⟨_, rfl⟩ | ⟨j, x, hx, _⟩
    · exact .inr (.inr (.inl ⟨i, u, .issued hp hi, by simp [hp], rfl⟩))
    · simp [hupos] at hx
  · rcases exec_next he with ⟨_, rfl⟩ | ⟨j, x, hx, _⟩
    · exact .inr (.inr (.inl ⟨i, s, .placed hp hf, by simp [hp], rfl⟩))
    · simp [hp] at hx
  · rcases exec_next he with ⟨hout, _⟩ | ⟨j, y, hy, hev⟩
    · exact absurd hp (hout i x)
    · obtain ⟨rfl, rfl⟩ : i = j ∧ x = y := by simpa [hp] using hy
      exact .inr (.inr (.inr (.inl ⟨i, x, hp, hev⟩)))
  · exact .inr (.inr (.inr (.inr hdone)))

end Sys2Proof.Machine
end

section
/-! What the events of an exchange leave unchanged (R36): a byte exchange writes the buffers, the counters of the read
and `first_cmd_pending` at most, and an issuing rule writes what its command decides. -/

namespace Sys2Proof.Machine

/-- An issuing rule writes the flags, counters, phase, outcome and position of its decision at most (R156 to R167). -/
theorem closeOf_eq (i : Instr) (res : ReadResult) (u : State) :
    ∃ v c p n m o q, closeOf i res u =
      { u with
        isV2 := v, isHighCapacity := c, phase := p, negAttempts := n, ocrAttempts := m, outcome := o, pos := q } := by
  cases res with
  | timeoutToken => cases i <;> exact ⟨_, _, _, _, _, _, _, rfl⟩
  | timeoutBusy => cases i <;> exact ⟨_, _, _, _, _, _, _, rfl⟩
  | ok =>
    cases i with
    | cmdReset => simp only [closeOf, closeReset]; split_ifs <;> exact ⟨_, _, _, _, _, _, _, rfl⟩
    | cmdIfCond => simp only [closeOf, closeIfCond]; split_ifs <;> exact ⟨_, _, _, _, _, _, _, rfl⟩
    | cmdApp => exact ⟨_, _, _, _, _, _, _, rfl⟩
    | acmdOpCond arg =>
      simp only [closeOf, closeOpCond, afterNegotiation]; split_ifs <;> exact ⟨_, _, _, _, _, _, _, rfl⟩
    | cmdReadOcr => simp only [closeOf, closeReadOcr]; split_ifs <;> exact ⟨_, _, _, _, _, _, _, rfl⟩
    | cmd idx arg => exact ⟨_, _, _, _, _, _, _, rfl⟩

/-- An event of an exchange exchanges one byte and stays inside, or releases chip-select and leaves the decision to the
issuing rule (R127, R128). -/
theorem ExchangeEvent.byte_or_close {i : Instr} {s t : State} {x : ExchangePos} (h : ExchangeEvent i s x t) :
    (∃ out p n m r y, t =
      { s.exchangeByte out with firstCmdPending := p, tokenTries := n, busyTries := m, r := r, pos := .exch i y }) ∨
    (∃ res, (x = .release res ∨ x = .token ∧ s.tokenCount = s.params.tokenRetries ∧ res = .timeoutToken) ∧
      t = closeOf i res (s.closeExchange res)) := by
  cases h with
  | frame k => left; unfold State.frameByteSent; split <;> exact ⟨_, _, _, _, _, _, rfl⟩
  | token hleft => left; unfold State.tokenRead; split <;> exact ⟨_, _, _, _, _, _, rfl⟩
  | tokenSpent hspent => exact .inr ⟨_, .inr ⟨rfl, hspent, rfl⟩, rfl⟩
  | extra k => exact .inl ⟨_, _, _, _, _, _, rfl⟩
  | drain hleft => exact .inl ⟨_, _, _, _, _, _, rfl⟩
  | drainSpent hspent => exact .inl ⟨_, _, _, _, _, _, rfl⟩
  | dummy cleared => exact .inl ⟨_, _, _, _, _, _, rfl⟩
  | release res => exact .inr ⟨_, .inl rfl, rfl⟩

@[simp] theorem closeOf_csLevel (i : Instr) (res : ReadResult) (u : State) : (closeOf i res u).csLevel = u.csLevel := by
  obtain ⟨_, _, _, _, _, _, _, h⟩ := closeOf_eq i res u
  rw [h]

@[simp] theorem closeOf_trace (i : Instr) (res : ReadResult) (u : State) : (closeOf i res u).trace = u.trace :=
  (closeOf_env_trace i res u).2

@[simp] theorem closeOf_params (i : Instr) (res : ReadResult) (u : State) : (closeOf i res u).params = u.params := by
  obtain ⟨_, _, _, _, _, _, _, h⟩ := closeOf_eq i res u
  rw [h]

/-- After an exchange chip-select may be released: a run goes on at a place with chip-select high, or a generic frame's
exchange is at rest. -/
theorem posLevel_closeOf (i : Instr) (res : ReadResult) (u : State) :
    posLevel (closeOf i res u).pos = some .high ∨ (closeOf i res u).pos = .rest := by
  cases res with
  | timeoutToken => cases i <;> simp [closeOf, closeReset, closeIfCond, closeApp, closeOpCond, closeReadOcr,
      closeGeneric, posLevel]
  | timeoutBusy => cases i <;> simp [closeOf, closeReset, closeIfCond, closeApp, closeOpCond, closeReadOcr,
      closeGeneric, posLevel]
  | ok =>
    cases i with
    | cmdReset => simp only [closeOf, closeReset]; split_ifs <;> exact .inl rfl
    | cmdIfCond => simp only [closeOf, closeIfCond]; split_ifs <;> exact .inl rfl
    | cmdApp => exact .inl rfl
    | acmdOpCond arg => simp only [closeOf, closeOpCond, afterNegotiation]; split_ifs <;> exact .inl rfl
    | cmdReadOcr => simp only [closeOf, closeReadOcr]; split_ifs <;> exact .inl rfl
    | cmd idx arg => exact .inr rfl

end Sys2Proof.Machine
end

section
/-! Chip-select discipline (R37, R128, R254). -/

namespace Sys2Proof.Machine

/-- A position that asks for the level that the line has. -/
theorem lineOk_of_posLevel {t : State} (h : posLevel t.pos = some t.csLevel) : t.LineOk := by
  refine ⟨fun l hl => Option.some.inj (h.symm.trans hl), fun hrest => ?_⟩
  simp [hrest, posLevel] at h

/-- A position before the first `CS` of a run asks for no level. -/
theorem lineOk_of_free {t : State} (h : posLevel t.pos = none) (hpos : t.pos ≠ .rest) : t.LineOk :=
  ⟨fun l hl => by simp [h] at hl, fun hrest => absurd hrest hpos⟩

/-- At rest only the end of a run asks for a level. -/
theorem lineOk_of_rest {t : State} (hpos : t.pos = .rest)
    (h : t.phase = .ready ∨ t.phase = .faulted → t.csLevel = .high) : t.LineOk :=
  ⟨fun l hl => by simp [hpos, posLevel] at hl, fun _ => h⟩

/-- A position with a level fixes the line's level. -/
theorem State.LineOk.csLevel_eq {s : State} {l : CsLevel} (h : s.LineOk) (hl : posLevel s.pos = some l) :
    s.csLevel = l := h.1 l hl

/-- The caller's operations keep the discipline. -/
theorem hostStep_lineOk {s t : State} (hs : s.LineOk) (hpos : s.pos = .rest) (h : hostStep s = .next t) :
    t.LineOk := by
  rcases hostStep_next h with ⟨_, rfl⟩ | ⟨cs, bus, rest, _, rfl⟩ | ⟨rest, _, _, rfl⟩ | ⟨rest, _, hph, rfl⟩ |
    ⟨a, rest, v, _, _, rfl⟩
  · exact hs
  · exact lineOk_of_rest rfl (by simp [State.newSession, State.construct])
  · exact lineOk_of_free rfl (by simp [State.startRun])
  · exact lineOk_of_posLevel (congrArg some (hs.2 hpos (.inr hph)).symm)
  · exact lineOk_of_rest hpos (hs.2 hpos)

/-- The sequencer's own events keep the discipline. -/
theorem SequencerEvent.lineOk {s t : State} (hs : s.LineOk) (h : SequencerEvent s t) : t.LineOk := by
  cases h with
  | cfgClk hp => exact lineOk_of_free rfl (by simp)
  | cfgOut hp => exact lineOk_of_free rfl (by simp)
  | csFirst hp => exact lineOk_of_posLevel rfl
  | idleHigh hp hk => exact lineOk_of_posLevel (congrArg some (hs.csLevel_eq (by simp [hp, posLevel])).symm)
  | assertLine hp => exact lineOk_of_posLevel rfl
  | idleLow hp hk => exact lineOk_of_posLevel (congrArg some (hs.csLevel_eq (by simp [hp, posLevel])).symm)
  | releaseLine hp => exact lineOk_of_posLevel rfl
  | spentBudget hp hi => exact lineOk_of_posLevel rfl
  | faultRelease hp => exact lineOk_of_posLevel rfl
  | faultDummy hp => exact lineOk_of_posLevel (congrArg some (hs.csLevel_eq (by simp [hp, posLevel])).symm)

/-- The events inside an exchange keep the discipline. -/
theorem ExchangeEvent.lineOk {i : Instr} {s t : State} {x : ExchangePos} (hs : s.LineOk) (hp : s.pos = .exch i x)
    (h : ExchangeEvent i s x t) : t.LineOk := by
  rcases h.byte_or_close with ⟨out, p, n, m, r, y, rfl⟩ | ⟨res, _, rfl⟩
  · exact lineOk_of_posLevel (congrArg some (hs.csLevel_eq (by simp [hp, posLevel])).symm)
  · rcases posLevel_closeOf i res (s.closeExchange res) with hq | hq
    · exact lineOk_of_posLevel (by rw [hq, closeOf_csLevel]; rfl)
    · exact lineOk_of_rest hq fun _ => closeOf_csLevel i res _

/-- Settles O47: each kind of step leads to a position that asks for the level which the step has left or driven. -/
theorem chipSelectDisciplineIsKept : Obligations.ChipSelectDisciplineIsKept := by
  intro s t hs h
  rcases step_event h with ⟨hpos, hhost⟩ | hown | ⟨i, u, _, _, rfl⟩ | ⟨i, x, hp, hev⟩ | ⟨hp, rfl⟩
  · exact hostStep_lineOk hs hpos hhost
  · exact hown.lineOk hs
  · exact lineOk_of_posLevel rfl
  · exact hev.lineOk hs hp
  · exact lineOk_of_rest rfl fun _ => hs.csLevel_eq (by simp [hp, posLevel])

end Sys2Proof.Machine
end

section
/-! The invariant of a session by kind of position: the part of it that speaks of the session's record and budgets only,
and what is left of it outside an exchange, inside one, and before and after `DONE`. -/

namespace Sys2Proof.Machine

/-- The flags and the outcome while a run is in progress, up to the end of the Faulted procedure (R152, R169). -/
def State.RunFlags (s : State) : Prop :=
  s.timedOut = some false ∧ s.faulted = some false ∧ s.isV2.isSome = true ∧ s.isHighCapacity = none ∧
  s.outcome = .none ∧ s.cause = none

/-- What the invariant says of the session's record in a run, whatever the position (R25, R29, R152, R165). -/
def State.RecordOk (s : State) : Prop :=
  s.RunFlags ∧
  (s.phase = .reset ∨ s.phase = .probe → s.isV2 = some false) ∧
  (s.phase = .readOcr → s.isV2 = some true) ∧
  (s.phase = .negotiate → s.negAttempts.isSome = true) ∧
  (s.phase = .readOcr → s.ocrAttempts.isSome = true)

/-- No counter exceeds its budget (R29). -/
def State.WithinBudgets (s : State) : Prop :=
  (∀ n, s.negAttempts = some n → n ≤ s.params.negRetries) ∧
  (∀ n, s.ocrAttempts = some n → n ≤ s.params.ocrRetries) ∧
  (∀ n, s.tokenTries = some n → n ≤ s.params.tokenRetries) ∧
  (∀ n, s.busyTries = some n → n ≤ s.params.busyRetries)

/-- A position that belongs to one phase belongs to a phase of the run or, in the Faulted procedure, to FAULTED. -/
theorem posPhase_cases {q : Pos} {ph : Phase} (h : posPhase q = some ph) :
    ph = .reset ∨ ph = .probe ∨ ph = .negotiate ∨ ph = .readOcr ∨ ph = .faulted ∧ inFaultProcedure q = true := by
  cases q with
  | command c => cases c <;> simp_all [posPhase]
  | exch i x => cases i <;> simp_all [posPhase]
  | _ => simp_all [posPhase, inFaultProcedure]

/-- At a position that belongs to one phase the flags are those of a run in progress. -/
theorem flagsOk_iff_runFlags {s : State} (h : posPhase s.pos = some s.phase) : s.FlagsOk ↔ s.RunFlags := by
  unfold State.FlagsOk State.RunFlags
  rcases posPhase_cases h with hph | hph | hph | hph | ⟨hph, hproc⟩
  case' inr.inr.inr.inr => simp only [hph, hproc, if_true]; tauto
  all_goals simp only [hph]

/-- A position that belongs to one phase is neither at rest nor at `DONE`, nor one of a frame exchanged on its own
account. -/
theorem phaseOk_of_posPhase {s : State} (h : posPhase s.pos = some s.phase) : s.PhaseOk := by
  refine ⟨fun q hq => Option.some.inj (h.symm.trans hq), fun hp => ?_, fun hp => ?_, fun hp => ?_,
    fun idx arg x hp => ?_⟩
  all_goals simp [hp, posPhase] at h

/-- Outside an exchange, in a run: what is left to show. -/
theorem inv_of_outside {s : State} (hout : ∀ j x, s.pos ≠ .exch j x) (hphase : posPhase s.pos = some s.phase)
    (hline : s.LineOk) (hrec : s.RecordOk) (hbudget : s.WithinBudgets)
    (hfirst : s.firstCmdPending = s.beforeFirstFrame) (hread : s.ReadOk) : s.Inv := by
  obtain ⟨hflags, hearly, hlate, hneg, hocr⟩ := hrec
  obtain ⟨hn, ho, ht, hb⟩ := hbudget
  exact ⟨hline, phaseOk_of_posPhase hphase, (flagsOk_iff_runFlags hphase).2 hflags,
    ⟨hearly, hlate, fun arg x hp => absurd hp (hout _ x)⟩,
    ⟨hn, ho, ht, hb, hneg, hocr, fun i hp => absurd hp (hout i _)⟩,
    ⟨hfirst, fun i k hp => absurd hp (hout i _)⟩, hread⟩

/-- Inside an exchange, in a run: what is left to show. -/
theorem inv_of_exch {s : State} {i : Instr} {x : ExchangePos} (hp : s.pos = .exch i x)
    (hphase : posPhase (.exch i x) = some s.phase) (hline : s.LineOk) (hrec : s.RecordOk) (hbudget : s.WithinBudgets)
    (harg : ∀ arg, i = .acmdOpCond arg → arg = opCondArg s) (htoken : x = .token → s.tokenTries.isSome = true)
    (hfirst : s.firstCmdPending = s.beforeFirstFrame)
    (hframe : ∀ k, x = .frame k → s.f = some (encode s.params s.firstCmdPending i)) (hread : s.ReadOk) : s.Inv := by
  obtain ⟨hflags, hearly, hlate, hneg, hocr⟩ := hrec
  obtain ⟨hn, ho, ht, hb⟩ := hbudget
  rw [← hp] at hphase
  refine ⟨hline, phaseOk_of_posPhase hphase, (flagsOk_iff_runFlags hphase).2 hflags,
    ⟨hearly, hlate, fun arg y hy => ?_⟩, ⟨hn, ho, ht, hb, hneg, hocr, fun j hj => ?_⟩,
    ⟨hfirst, fun j k hk => ?_⟩, hread⟩
  · exact harg arg (by simp_all)
  · exact htoken (by simp_all)
  · obtain ⟨rfl, rfl⟩ : i = j ∧ x = .frame k := by simpa [hp] using hk
    exact hframe k rfl

/-- Before `DONE` and at rest: what is left to show. -/
theorem inv_of_ended {s : State} (hp : s.pos = .done ∧ (s.phase = .ready ∨ s.phase = .faulted) ∨
      s.pos = .rest ∧ (s.phase = .constructed ∨ s.phase = .ready ∨ s.phase = .faulted))
    (hline : s.LineOk) (hflags : s.FlagsOk) (hbudget : s.WithinBudgets)
    (hfirst : s.firstCmdPending = s.beforeFirstFrame) : s.Inv := by
  obtain ⟨hn, ho, ht, hb⟩ := hbudget
  refine ⟨hline, ?_, hflags, ?_, ⟨hn, ho, ht, hb, ?_⟩, ⟨hfirst, ?_⟩, ?_⟩
  · rcases hp with ⟨hp, hph⟩ | ⟨hp, hph⟩ <;> simp [State.PhaseOk, hp, hph, posPhase]
  · rcases hp with ⟨hp, hph | hph⟩ | ⟨hp, hph | hph | hph⟩ <;> simp [State.VersionOk, hp, hph]
  · rcases hp with ⟨hp, hph | hph⟩ | ⟨hp, hph | hph | hph⟩ <;> simp [hp, hph]
  · rcases hp with ⟨hp, _⟩ | ⟨hp, _⟩ <;> simp [hp]
  · rcases hp with ⟨hp, _⟩ | ⟨hp, _⟩ <;> simp [State.ReadOk, hp]

theorem State.Inv.lineOk {s : State} (hi : s.Inv) : s.LineOk := hi.1

theorem State.Inv.flagsOk {s : State} (hi : s.Inv) : s.FlagsOk := hi.2.2.1

theorem State.Inv.readOk {s : State} (hi : s.Inv) : s.ReadOk := by
  obtain ⟨_, _, _, _, _, _, hread⟩ := hi
  exact hread

/-- A session exchanges no generic frame (R151). -/
theorem State.Inv.ne_cmd {s : State} {i : Instr} {x : ExchangePos} (hi : s.Inv) (hp : s.pos = .exch i x) (idx : Byte)
    (arg : Arg) : i ≠ .cmd idx arg := by
  obtain ⟨_, ⟨_, _, _, _, hcmd⟩, _⟩ := hi
  exact fun h => hcmd idx arg x (h ▸ hp)

/-- No frame is placed in a session (log entry 7). -/
theorem State.Inv.ne_direct {s : State} (hi : s.Inv) : s.pos ≠ .direct := by
  obtain ⟨_, ⟨_, _, _, hdirect, _⟩, _⟩ := hi
  exact hdirect

/-- The counters are within their budgets in every state of a session. -/
theorem State.Inv.withinBudgets {s : State} (hi : s.Inv) : s.WithinBudgets := by
  obtain ⟨_, _, _, _, ⟨hn, ho, ht, hb, _⟩, _⟩ := hi
  exact ⟨hn, ho, ht, hb⟩

/-- The first-command flag is set exactly before the first frame of a session. -/
theorem State.Inv.firstCmdPending_eq {s : State} (hi : s.Inv) : s.firstCmdPending = s.beforeFirstFrame := by
  obtain ⟨_, _, _, _, _, ⟨hfirst, _⟩, _⟩ := hi
  exact hfirst

/-- A session's phase is the one its position belongs to. -/
theorem State.Inv.phase_eq {s : State} {ph : Phase} (hi : s.Inv) (hp : posPhase s.pos = some ph) : s.phase = ph := by
  obtain ⟨_, ⟨hphase, _⟩, _⟩ := hi
  exact hphase ph hp

/-- In a run the session's record is as `RecordOk` says. -/
theorem State.Inv.recordOk {s : State} {ph : Phase} (hi : s.Inv) (hp : posPhase s.pos = some ph) : s.RecordOk := by
  have hphase : posPhase s.pos = some s.phase := by rw [hi.phase_eq hp, hp]
  obtain ⟨_, _, hflags, ⟨hearly, hlate, _⟩, ⟨_, _, _, _, hneg, hocr, _⟩, _⟩ := hi
  exact ⟨(flagsOk_iff_runFlags hphase).1 hflags, hearly, hlate, hneg, hocr⟩

/-- A session is in the exchange of a command of the sequence only, in that command's phase. -/
theorem State.Inv.posPhase_exch {s : State} {i : Instr} {x : ExchangePos} (hi : s.Inv) (hp : s.pos = .exch i x)
    (y : ExchangePos) : posPhase (.exch i y) = some s.phase := by
  have hphase : ∀ ph, posPhase (.exch i x) = some ph → s.phase = ph := fun ph h => hi.phase_eq (hp ▸ h)
  cases i with
  | cmd idx arg => exact absurd rfl (hi.ne_cmd hp idx arg)
  | _ => exact congrArg some (hphase _ rfl).symm

end Sys2Proof.Machine
end

section
/-! Every step keeps the invariant, by kind of step. -/

namespace Sys2Proof.Machine

/-- In FAULTED the record is as the flags say; the other clauses are about the phases of the run. -/
theorem recordOk_of_faulted {s : State} (hph : s.phase = .faulted) (hflags : s.RunFlags) : s.RecordOk :=
  ⟨hflags, by simp [hph], by simp [hph], by simp [hph], by simp [hph]⟩

/-- The Faulted procedure meets the invariant: entered after the first frame, with a cause a session can have (R169). -/
theorem inv_of_faultProcedure {s : State} {c : Cause} (hp : s.pos = .faultRelease c ∨ s.pos = .faultDummy c)
    (hc : c ≠ .tBusy) (hph : s.phase = .faulted) (hline : s.LineOk) (hflags : s.RunFlags) (hbudget : s.WithinBudgets)
    (hfirst : s.firstCmdPending = false) : s.Inv := by
  have hrec := recordOk_of_faulted hph hflags
  rcases hp with hp | hp
  · exact inv_of_outside (by simp [hp]) (by simp [hp, hph, posPhase]) hline hrec hbudget
      (by simp [hfirst, State.beforeFirstFrame, hp]) (by simpa [State.ReadOk, hp] using hc)
  · exact inv_of_outside (by simp [hp]) (by simp [hp, hph, posPhase]) hline hrec hbudget
      (by simp [hfirst, State.beforeFirstFrame, hp]) (by simpa [State.ReadOk, hp] using hc)

/-- The end of the Faulted procedure meets the invariant: the flags, the cause and the outcome agree (R32, R169). -/
theorem inv_faultFinished {s : State} {c : Cause} (hi : s.Inv) (hp : s.pos = .faultDummy c)
    (hline : (s.faultFinished c).LineOk) : (s.faultFinished c).Inv := by
  have hphase : posPhase s.pos = some .faulted := by rw [hp]; rfl
  have hph := hi.phase_eq hphase
  obtain ⟨⟨hto, hfa, hv, hcap, _, _⟩, _⟩ := hi.recordOk hphase
  have hc : c ≠ .tBusy := by simpa [State.ReadOk, hp] using hi.readOk
  refine inv_of_ended (.inl ⟨rfl, .inr hph⟩) hline ?_ hi.withinBudgets ?_
  · rw [State.FlagsOk, show (s.faultFinished c).phase = .faulted from hph]
    refine ⟨hcap, hv, rfl, ⟨c, rfl, hc, ?_⟩, ?_⟩
    · cases hcl : c.isTimeout <;> simp [State.faultFinished, hcl, hto]
    · cases hcl : c.isTimeout <;> simp [State.faultFinished, hcl, hto, State.hasTimedOut]
  · exact hi.firstCmdPending_eq.trans (by simp [State.beforeFirstFrame, hp, State.faultFinished])

/-- The places of the setup and the power-up clocking, up to the reset command (R153 to R155). -/
def isSetup : Pos → Bool
  | .cfgClk => true
  | .cfgOut => true
  | .csFirst => true
  | .idleHigh _ => true
  | .idleLow _ => true
  | .command .reset => true
  | _ => false

/-- A place of the setup belongs to phase RESET, before the first frame. -/
theorem setup_place {s : State} (h : isSetup s.pos = true) :
    posPhase s.pos = some .reset ∧ s.beforeFirstFrame = true ∧ (∀ j x, s.pos ≠ .exch j x) ∧ s.ReadOk := by
  unfold State.beforeFirstFrame State.ReadOk
  cases hp : s.pos with
  | command c => cases c <;> simp_all [isSetup, posPhase]
  | _ => simp_all [isSetup, posPhase]

/-- An event of the setup meets the invariant: it writes no element that the invariant speaks of but the position and
the level of the line. -/
theorem inv_of_setup {s t : State} (hi : s.Inv) (hs : isSetup s.pos = true) (ht : isSetup t.pos = true)
    (hline : t.LineOk)
    (heq : ∃ l k e n tr q, t = { s with csLevel := l, clkCfg := k, env := e, rxCount := n, trace := tr, pos := q }) :
    t.Inv := by
  obtain ⟨hphase, hbefore, _, _⟩ := setup_place hs
  obtain ⟨hphase', hbefore', hout, hread⟩ := setup_place ht
  have hph := hi.phase_eq hphase
  have hfirst := hi.firstCmdPending_eq.trans hbefore
  have hrec := hi.recordOk hphase
  have hbudget := hi.withinBudgets
  obtain ⟨l, k, e, n, tr, q, rfl⟩ := heq
  exact inv_of_outside hout (hphase'.trans (congrArg some hph.symm)) hline hrec hbudget
    (hfirst.trans hbefore'.symm) hread

/-- A loop head raises its own budget's cause (R160, R166). -/
theorem issue_stop {c : SeqPos} {s : State} {cause : Cause} (h : issue c s = .stop cause) :
    c = .attempt ∧ cause = .tNegBudget ∧ s.negCount = s.params.negRetries ∨
    c = .register ∧ cause = .tOcrBudget ∧ s.ocrCount = s.params.ocrRetries := by
  cases c with
  | attempt => simp only [issue] at h; split_ifs at h with hn; cases h; exact .inl ⟨rfl, rfl, hn⟩
  | register => simp only [issue] at h; split_ifs at h with hn; cases h; exact .inr ⟨rfl, rfl, hn⟩
  | _ => cases h

/-- A spent budget's entry into the Faulted procedure meets the invariant. -/
theorem inv_spentBudget {s : State} {c : SeqPos} {cause : Cause} (hi : s.Inv) (hp : s.pos = .command c)
    (hs : issue c s = .stop cause) (hline : ((s.raise cause).faultReleased cause).LineOk) :
    ((s.raise cause).faultReleased cause).Inv := by
  obtain ⟨hc, hbefore, ph, hph⟩ : cause ≠ .tBusy ∧ s.beforeFirstFrame = false ∧ ∃ ph, posPhase s.pos = some ph := by
    rcases issue_stop hs with ⟨rfl, rfl, _⟩ | ⟨rfl, rfl, _⟩ <;> simp [State.beforeFirstFrame, hp, posPhase]
  obtain ⟨hflags, _⟩ := hi.recordOk hph
  exact inv_of_faultProcedure (.inr rfl) hc rfl hline hflags hi.withinBudgets (hi.firstCmdPending_eq.trans hbefore)

/-- The sequencer's own events keep the invariant. -/
theorem SequencerEvent.inv {s t : State} (hi : s.Inv) (h : SequencerEvent s t) : t.Inv := by
  have hline := h.lineOk hi.lineOk
  cases h with
  | cfgClk hp => exact inv_of_setup hi (by rw [hp]; rfl) rfl hline ⟨_, _, _, _, _, _, rfl⟩
  | cfgOut hp => exact inv_of_setup hi (by rw [hp]; rfl) rfl hline ⟨_, _, _, _, _, _, rfl⟩
  | csFirst hp => exact inv_of_setup hi (by rw [hp]; rfl) rfl hline ⟨_, _, _, _, _, _, rfl⟩
  | idleHigh hp hk => exact inv_of_setup hi (by rw [hp]; rfl) rfl hline ⟨_, _, _, _, _, _, rfl⟩
  | assertLine hp => exact inv_of_setup hi (by rw [hp]; rfl) rfl hline ⟨_, _, _, _, _, _, rfl⟩
  | idleLow hp hk => exact inv_of_setup hi (by rw [hp]; rfl) rfl hline ⟨_, _, _, _, _, _, rfl⟩
  | releaseLine hp => exact inv_of_setup hi (by rw [hp]; rfl) rfl hline ⟨_, _, _, _, _, _, rfl⟩
  | spentBudget hp hs => exact inv_spentBudget hi hp hs hline
  | @faultRelease c hp =>
    have hphase : posPhase s.pos = some .faulted := by rw [hp]; rfl
    have hc : c ≠ .tBusy := by simpa [State.ReadOk, hp] using hi.readOk
    obtain ⟨hflags, _⟩ := hi.recordOk hphase
    exact inv_of_faultProcedure (.inr rfl) hc (hi.phase_eq hphase) hline hflags hi.withinBudgets
      (hi.firstCmdPending_eq.trans (by simp [State.beforeFirstFrame, hp]))
  | faultDummy hp => exact inv_faultFinished hi hp hline

/-- What the sequencer issues at each of its places (R79), with the counter its loop head has written (R160, R166). -/
theorem issue_run {c : SeqPos} {s u : State} {i : Instr} (h : issue c s = .run i u) :
    (c = .reset ∧ i = .cmdReset ∧ u = s) ∨ (c = .probe ∧ i = .cmdIfCond ∧ u = s) ∨
    (c = .attempt ∧ i = .cmdApp ∧ s.negCount ≠ s.params.negRetries ∧
      u = { s with negAttempts := some (s.negCount + 1) }) ∨
    (c = .query ∧ i = .acmdOpCond (opCondArg s) ∧ u = s) ∨
    (c = .register ∧ i = .cmdReadOcr ∧ s.ocrCount ≠ s.params.ocrRetries ∧
      u = { s with ocrAttempts := some (s.ocrCount + 1) }) := by
  cases c with
  | reset => cases h; simp
  | probe => cases h; simp
  | attempt => simp only [issue] at h; split_ifs at h with hn; cases h; simp [hn]
  | query => cases h; simp
  | register => simp only [issue] at h; split_ifs at h with hn; cases h; simp [hn]

/-- The opening of a command's exchange meets the invariant, from a state at the command's own place (R101, R127). -/
theorem inv_openExchange {s : State} {c : SeqPos} {i : Instr} (hp : s.pos = .command c)
    (hphase : posPhase (.exch i (.frame 0)) = some s.phase) (hrec : s.RecordOk) (hbudget : s.WithinBudgets)
    (harg : ∀ arg, i = .acmdOpCond arg → arg = opCondArg s) (hreset : c = .reset ↔ i = .cmdReset)
    (hfirst : s.firstCmdPending = s.beforeFirstFrame) :
    (s.openExchange i (i.index s.params) (i.argument s.params)).Inv := by
  refine inv_of_exch rfl hphase (lineOk_of_posLevel rfl) hrec hbudget harg (by simp) (hfirst.trans ?_)
    (fun _ _ => rfl) trivial
  have hbefore : s.beforeFirstFrame = decide (c = .reset) := by
    rw [State.beforeFirstFrame, hp]
    cases c <;> rfl
  have hafter : (s.openExchange i (i.index s.params) (i.argument s.params)).beforeFirstFrame =
      decide (i = .cmdReset) := by
    cases i <;> rfl
  rw [hbefore, hafter]
  exact decide_eq_decide.2 hreset

/-- An attempt that the budget allows is within the budget once it is counted (R29, R121, R160, R166). -/
theorem counted_le {o : Option Nat} {free budget : Nat} (hsome : o.isSome = true) (hle : ∀ n, o = some n → n ≤ budget)
    (hne : o.getD free ≠ budget) : o.getD free + 1 ≤ budget := by
  obtain ⟨n, rfl⟩ := Option.isSome_iff_exists.1 hsome
  have := hle n rfl
  simp only [Option.getD_some] at hne ⊢
  omega

/-- The opening of each command of the sequence keeps the invariant. -/
theorem inv_issued {s u : State} {c : SeqPos} {i : Instr} (hi : s.Inv) (hp : s.pos = .command c)
    (hrun : issue c s = .run i u) : (u.openExchange i (i.index u.params) (i.argument u.params)).Inv := by
  have hbudget := hi.withinBudgets
  have hfirst := hi.firstCmdPending_eq
  rcases issue_run hrun with ⟨rfl, rfl, rfl⟩ | ⟨rfl, rfl, rfl⟩ | ⟨rfl, rfl, hne, rfl⟩ | ⟨rfl, rfl, rfl⟩ |
    ⟨rfl, rfl, hne, rfl⟩
  · have hphase : posPhase u.pos = some .reset := by rw [hp]; rfl
    exact inv_openExchange hp (congrArg some (hi.phase_eq hphase).symm) (hi.recordOk hphase) hbudget (by simp)
      (by simp) hfirst
  · have hphase : posPhase u.pos = some .probe := by rw [hp]; rfl
    exact inv_openExchange hp (congrArg some (hi.phase_eq hphase).symm) (hi.recordOk hphase) hbudget (by simp)
      (by simp) hfirst
  · have hphase : posPhase s.pos = some .negotiate := by rw [hp]; rfl
    have hph := hi.phase_eq hphase
    obtain ⟨hflags, hearly, hlate, hneg, hocr⟩ := hi.recordOk hphase
    obtain ⟨hn, ho, ht, hb⟩ := hbudget
    refine inv_openExchange hp (congrArg some hph.symm) ⟨hflags, hearly, hlate, fun _ => rfl, hocr⟩
      ⟨?_, ho, ht, hb⟩ (by simp) (by simp) (hfirst.trans (by simp [State.beforeFirstFrame, hp]))
    rintro _ ⟨⟩
    exact counted_le (hneg hph) hn hne
  · have hphase : posPhase u.pos = some .negotiate := by rw [hp]; rfl
    exact inv_openExchange hp (congrArg some (hi.phase_eq hphase).symm) (hi.recordOk hphase) hbudget
      (fun arg harg => by simpa using harg.symm) (by simp) hfirst
  · have hphase : posPhase s.pos = some .readOcr := by rw [hp]; rfl
    have hph := hi.phase_eq hphase
    obtain ⟨hflags, hearly, hlate, hneg, hocr⟩ := hi.recordOk hphase
    obtain ⟨hn, ho, ht, hb⟩ := hbudget
    refine inv_openExchange hp (congrArg some hph.symm) ⟨hflags, hearly, hlate, hneg, fun _ => rfl⟩
      ⟨hn, ?_, ht, hb⟩ (by simp) (by simp) (hfirst.trans (by simp [State.beforeFirstFrame, hp]))
    rintro _ ⟨⟩
    exact counted_le (hocr hph) ho hne

/-- A command of a session is issued by its sequencer or is in progress; no frame is placed (log entry 7). -/
theorem State.Inv.runs_outside {s u : State} {i : Instr} (hi : s.Inv) (hr : s.Runs i u)
    (hout : ∀ j x, s.pos ≠ .exch j x) : ∃ c, s.pos = .command c ∧ issue c s = .run i u := by
  cases hr with
  | issued hp hs => exact ⟨_, hp, hs⟩
  | placed hp _ => exact absurd hp hi.ne_direct
  | inside hp => exact absurd hp (hout _ _)

/-- Inside an exchange past the frame, the session's first frame has been sent. -/
theorem beforeFirstFrame_of_read {s : State} {i : Instr} {x : ExchangePos} (hp : s.pos = .exch i x)
    (hx : ∀ k, x ≠ .frame k) : s.beforeFirstFrame = false := by
  rw [State.beforeFirstFrame, hp]
  cases x with
  | frame k => exact absurd rfl (hx k)
  | _ => cases i <;> rfl

/-- Inside an exchange chip-select stays asserted (R128). -/
theorem lineOk_inside {s t : State} {i j : Instr} {x y : ExchangePos} (hs : s.LineOk) (hp : s.pos = .exch i x)
    (hq : t.pos = .exch j y) (hl : t.csLevel = s.csLevel) : t.LineOk :=
  lineOk_of_posLevel (by rw [hl, hs.csLevel_eq (l := .low) (by rw [hp]; rfl), hq]; rfl)

/-- A place of a read that an event of the read leads to meets the invariant, where the event writes no element of the
record and the place is one of the command's shape. -/
theorem inv_of_readEvent {s t : State} {i : Instr} {x y : ExchangePos} (hi : s.Inv) (hp : s.pos = .exch i x)
    (hx : ∀ k, x ≠ .frame k) (hy : ∀ k, y ≠ .frame k)
    (heq : ∃ out n m r, t = { s.exchangeByte out with tokenTries := n, busyTries := m, r := r, pos := .exch i y })
    (htries : ∀ n, t.tokenTries = some n → n ≤ t.params.tokenRetries)
    (hbusy : ∀ n, t.busyTries = some n → n ≤ t.params.busyRetries)
    (htoken : y = .token → t.tokenTries.isSome = true) (hread : t.ReadOk) : t.Inv := by
  have hphase := hi.posPhase_exch hp
  have hrec := hi.recordOk (s := s) (by rw [hp]; exact hphase x)
  have hfirst := hi.firstCmdPending_eq.trans (beforeFirstFrame_of_read hp hx)
  obtain ⟨hn, ho, _, _⟩ := hi.withinBudgets
  obtain ⟨hline, _, _, ⟨_, _, harg⟩, _⟩ := hi
  obtain ⟨out, n, m, r, rfl⟩ := heq
  exact inv_of_exch rfl (hphase y) (lineOk_inside hline hp rfl rfl) hrec ⟨hn, ho, htries, hbusy⟩
    (fun arg hj => harg arg x (by rw [hp, hj])) htoken
    (hfirst.trans (beforeFirstFrame_of_read rfl hy).symm) (fun k hk => absurd hk (hy k)) hread

/-- A frame byte meets the invariant: the frame goes on, or the token search starts with its count at zero. -/
theorem inv_frameByteSent {s : State} {i : Instr} {k : Fin 6} (hi : s.Inv) (hp : s.pos = .exch i (.frame k)) :
    (s.frameByteSent i k).Inv := by
  have hphase := hi.posPhase_exch hp
  have hrec := hi.recordOk (s := s) (by rw [hp]; exact hphase (.frame k))
  have hfirst := hi.firstCmdPending_eq
  have hbudget := hi.withinBudgets
  obtain ⟨hline, _, _, ⟨_, _, harg⟩, _, ⟨_, hframe⟩, _⟩ := hi
  have harg' : ∀ arg, i = .acmdOpCond arg → arg = opCondArg s := fun arg hj => harg arg (.frame k) (by rw [hp, hj])
  unfold State.frameByteSent
  split
  · exact inv_of_exch rfl (hphase _) (lineOk_inside hline hp rfl rfl) hrec hbudget harg'
      (by simp) (hfirst.trans (by rw [State.beforeFirstFrame, hp]; cases i <;> rfl)) (fun _ _ => hframe i k hp) trivial
  · obtain ⟨hn, ho, _, hb⟩ := hbudget
    exact inv_of_exch rfl (hphase _) (lineOk_inside hline hp rfl rfl) hrec
      ⟨hn, ho, by rintro _ ⟨⟩; exact Nat.zero_le _, hb⟩ harg'
      (fun _ => rfl) (by cases i <;> rfl) (by simp) trivial

/-- No command of the sequence has a busy drain (I15). -/
theorem instrShape_ne_s1b {i : Instr} (h : ∀ idx arg, i ≠ .cmd idx arg) (sh : Shape) : instrShape sh i ≠ .s1b := by
  cases i with
  | cmd idx arg => exact absurd rfl (h idx arg)
  | _ => exact Shape.noConfusion

/-- After its token a read without busy drain goes on with the shape's next byte or, where it has none, ends. -/
theorem afterToken_cases {sh : Shape} (h : sh ≠ .s1b) :
    (afterToken sh = .release .ok ∧ shapeLen sh = 1) ∨ (afterToken sh = .extra 0 ∧ 1 < shapeLen sh) := by
  cases sh with
  | s1 => exact .inl ⟨rfl, rfl⟩
  | s1b => exact absurd rfl h
  | s2 => exact .inr ⟨rfl, by decide⟩
  | s5 => exact .inr ⟨rfl, by decide⟩

/-- In a session the token search has read no more than its budget, and one more where it goes on (R121). -/
theorem State.Inv.tokenCount_lt {s : State} {i : Instr} (hi : s.Inv) (hp : s.pos = .exch i .token)
    (hleft : s.tokenCount ≠ s.params.tokenRetries) : s.tokenCount + 1 ≤ s.params.tokenRetries := by
  obtain ⟨_, _, _, _, ⟨_, _, ht, _, _, _, hsome⟩, _⟩ := hi
  exact counted_le (hsome i hp) ht hleft

/-- One read of the token search meets the invariant (R121, R122). -/
theorem inv_tokenRead {s : State} {i : Instr} (hi : s.Inv) (hp : s.pos = .exch i .token)
    (hleft : s.tokenCount ≠ s.params.tokenRetries) : (s.tokenRead i (instrShape s.shape i)).Inv := by
  obtain ⟨_, _, _, hb⟩ := hi.withinBudgets
  have hcount := hi.tokenCount_lt hp hleft
  have hshape := instrShape_ne_s1b (hi.ne_cmd hp) s.shape
  unfold State.tokenRead
  split
  · rename_i htok
    have hstatus : ∃ b, (s.r.put 0 s.rxByte).r0 = some b ∧ isToken b = true := ⟨_, rfl, htok⟩
    rcases afterToken_cases hshape with ⟨hnext, hlen⟩ | ⟨hnext, hlen⟩ <;> rw [hnext]
    · exact inv_of_readEvent hi hp (by simp) (by simp) ⟨_, _, _, _, rfl⟩ (by rintro _ ⟨⟩; exact hcount) hb
        (by simp) ⟨rfl, hstatus, fun h => absurd h (by simp [hlen])⟩
    · exact inv_of_readEvent hi hp (by simp) (by simp) ⟨_, _, _, _, rfl⟩ (by rintro _ ⟨⟩; exact hcount) hb
        (by simp) ⟨hstatus, hlen, by simp⟩
  · exact inv_of_readEvent hi hp (by simp) (by simp) ⟨_, _, _, _, rfl⟩ (by rintro _ ⟨⟩; exact hcount) hb
      (fun _ => rfl) trivial

/-- A byte after the token meets the invariant (R123, R124). -/
theorem inv_extraRead {s : State} {i : Instr} {k : Fin 4} (hi : s.Inv) (hp : s.pos = .exch i (.extra k)) :
    (s.extraRead i (instrShape s.shape i) k).Inv := by
  obtain ⟨_, _, ht, hb⟩ := hi.withinBudgets
  obtain ⟨⟨b, hb0, hbtok⟩, hlen, hr1⟩ : s.hasStatus ∧ k.val + 1 < shapeLen (instrShape s.shape i) ∧
      (1 ≤ k.val → s.r.r1.isSome = true) := by simpa [State.ReadOk, hp] using hi.readOk
  have hstatus : ∃ b, (s.r.put k.succ s.rxByte).r0 = some b ∧ isToken b = true :=
    ⟨b, (put_succ_r0 _ _ _).trans hb0, hbtok⟩
  have hsecond : (s.r.put k.succ s.rxByte).r1.isSome = true := by
    rw [put_succ_r1]
    split_ifs with hk
    · rfl
    · exact hr1 (Nat.one_le_iff_ne_zero.2 fun h => hk (Fin.ext h))
  unfold State.extraRead
  rcases afterExtra_cases (instrShape s.shape i) k with ⟨hk, hnext, hlt⟩ | ⟨hnext, _⟩ <;> rw [hnext]
  · exact inv_of_readEvent hi hp (by simp) (by simp) ⟨_, _, _, _, rfl⟩ ht hb (by simp)
      ⟨hstatus, hlt, fun _ => hsecond⟩
  · exact inv_of_readEvent hi hp (by simp) (by simp) ⟨_, _, _, _, rfl⟩ ht hb (by simp)
      ⟨rfl, hstatus, fun _ => hsecond⟩

/-- The state right after the release of a command's exchange, as its issuing rule finds it: the invariant's clauses,
with chip-select high and the first frame sent. -/
structure State.Released (u : State) (ph : Phase) : Prop where
  phase : u.phase = ph
  level : u.csLevel = .high
  record : u.RecordOk
  budgets : u.WithinBudgets
  first : u.firstCmdPending = false

/-- The release of a session's exchange is such a state. -/
theorem State.Inv.released {s : State} {i : Instr} {x : ExchangePos} {ph : Phase} (hi : s.Inv) (hp : s.pos = .exch i x)
    (hx : ∀ k, x ≠ .frame k) (hph : posPhase (.exch i x) = some ph) (res : ReadResult) :
    (s.closeExchange res).Released ph where
  phase := hi.phase_eq (hp ▸ hph)
  level := rfl
  record := hi.recordOk (hp ▸ hph)
  budgets := hi.withinBudgets
  first := hi.firstCmdPending_eq.trans (beforeFirstFrame_of_read hp hx)

/-- A decision that raises meets the invariant (R169). -/
theorem State.Released.inv_raise {u : State} {ph : Phase} {c : Cause} (h : u.Released ph) (hc : c ≠ .tBusy) :
    (u.raise c).Inv :=
  inv_of_faultProcedure (.inl rfl) hc rfl (lineOk_of_posLevel (congrArg some h.level.symm)) h.record.1 h.budgets h.first

/-- A decision that ends the run with success meets the invariant, where the capacity flag is written exactly for a v2
card (R167, R168). -/
theorem State.Released.inv_finish {u : State} {ph : Phase} {cap : Option Bool} (h : u.Released ph)
    (hcap : cap.isSome = true ↔ u.isV2 = some true) : (State.finish { u with isHighCapacity := cap }).Inv := by
  obtain ⟨_, hlevel, ⟨⟨hto, hfa, hv, _, _, hcause⟩, _⟩, hbudget, hfirst⟩ := h
  exact inv_of_ended (.inl ⟨rfl, .inl rfl⟩) (lineOk_of_posLevel (congrArg some hlevel.symm))
    ⟨hto, hfa, rfl, hcause, hv, hcap⟩ hbudget hfirst

/-- A decision that leads to a place of the sequence other than the reset command's meets the invariant. -/
theorem inv_of_place {t : State} {c : SeqPos} (hp : t.pos = .command c) (hc : c ≠ .reset)
    (hph : posPhase (.command c) = some t.phase) (hlevel : t.csLevel = .high) (hrec : t.RecordOk)
    (hbudget : t.WithinBudgets) (hfirst : t.firstCmdPending = false) : t.Inv := by
  refine inv_of_outside (by simp [hp]) (hp ▸ hph) (lineOk_of_posLevel (by rw [hp, hlevel]; rfl)) hrec hbudget
    (hfirst.trans ?_) (by simp [State.ReadOk, hp])
  rw [State.beforeFirstFrame, hp]
  cases c with
  | reset => exact absurd rfl hc
  | _ => rfl

/-- R156 keeps the invariant. -/
theorem inv_closeReset {u : State} (h : u.Released .reset) : (closeReset .ok u).Inv := by
  by_cases hidle : u.status = 0x01
  · rw [closeReset_of_idle hidle]
    obtain ⟨hph, hlevel, ⟨hflags, hearly, _, _, _⟩, hbudget, hfirst⟩ := h
    exact inv_of_place rfl (by simp) rfl hlevel
      ⟨hflags, fun _ => hearly (.inl hph), by simp, by simp, by simp⟩ hbudget hfirst
  · rw [closeReset_of_not_idle hidle]
    exact h.inv_raise (by simp)

/-- R158 and R159 keep the invariant. -/
theorem inv_closeIfCond {u : State} (h : u.Released .probe) : (closeIfCond .ok u).Inv := by
  unfold closeIfCond
  dsimp only
  split
  · obtain ⟨_, hlevel, ⟨⟨hto, hfa, hv, hrest⟩, _⟩, ⟨_, ho, ht, hb⟩, hfirst⟩ := h
    refine inv_of_place rfl (by simp) rfl hlevel ⟨⟨hto, hfa, ?_, hrest⟩, by simp, by simp, by simp, by simp⟩
      ⟨by rintro _ ⟨⟩; exact Nat.zero_le _, ho, ht, hb⟩ hfirst
    split
    · exact hv
    · rfl
  · exact h.inv_raise (by simp)

/-- R161 keeps the invariant. -/
theorem inv_closeApp {u : State} (h : u.Released .negotiate) : (closeApp .ok u).Inv :=
  inv_of_place rfl (by simp) (congrArg some h.phase.symm) h.level h.record h.budgets h.first

/-- R163 to R165 keep the invariant. -/
theorem inv_closeOpCond {u : State} (h : u.Released .negotiate) : (closeOpCond .ok u).Inv := by
  cases hready : readyResp u.params u.status u.second with
  | false =>
    rw [closeOpCond_of_not_ready hready]
    exact inv_of_place rfl (by simp) (congrArg some h.phase.symm) h.level h.record h.budgets h.first
  | true =>
    by_cases h0 : u.status = 0x00
    · obtain ⟨v, hv2⟩ : ∃ v, u.isV2 = some v := Option.isSome_iff_exists.1 h.record.1.2.2.1
      cases v with
      | true =>
        rw [closeOpCond_of_v2 hready h0 (version_of_some hv2)]
        obtain ⟨_, hlevel, ⟨hflags, _⟩, ⟨hn, _, ht, hb⟩, hfirst⟩ := h
        exact inv_of_place rfl (by simp) rfl hlevel ⟨hflags, by simp, fun _ => hv2, by simp, fun _ => rfl⟩
          ⟨hn, by rintro _ ⟨⟩; exact Nat.zero_le _, ht, hb⟩ hfirst
      | false =>
        rw [closeOpCond_of_not_v2 hready h0 (version_of_some hv2)]
        obtain ⟨⟨_, _, _, hcap, _⟩, _⟩ := h.record
        exact h.inv_finish (by simp [hcap, hv2])
    · rw [closeOpCond_of_status_ne_zero hready h0]
      exact h.inv_raise (by simp)

/-- R166 and R167 keep the invariant. -/
theorem inv_closeReadOcr {u : State} (h : u.Released .readOcr) : (closeReadOcr .ok u).Inv := by
  cases hready : readyResp u.params u.status u.second with
  | true =>
    rw [closeReadOcr_of_ready hready]
    obtain ⟨_, _, hlate, _⟩ := h.record
    exact h.inv_finish (by simp [hlate h.phase])
  | false =>
    rw [closeReadOcr, hready, if_neg Bool.false_ne_true]
    exact inv_of_place rfl (by simp) (congrArg some h.phase.symm) h.level h.record h.budgets h.first

/-- A token timeout raises the command's own cause; the generic frame's goes back to its caller (R127, R221). -/
theorem closeOf_timeoutToken {i : Instr} {c : Cause} (h : tokenTimeoutCause i = some c) (u : State) :
    closeOf i .timeoutToken u = u.raise c := by
  cases i <;> cases h <;> rfl

/-- No token timeout has the cause that is reserved for busy drains (R221). -/
theorem tokenTimeoutCause_ne_tBusy {i : Instr} {c : Cause} (h : tokenTimeoutCause i = some c) : c ≠ .tBusy := by
  cases i <;> cases h <;> exact Cause.noConfusion

/-- Every command of the sequence has its own cause (R221). -/
theorem tokenTimeoutCause_isSome {i : Instr} (h : ∀ idx arg, i ≠ .cmd idx arg) : ∃ c, tokenTimeoutCause i = some c := by
  cases i with
  | cmd idx arg => exact absurd rfl (h idx arg)
  | _ => exact ⟨_, rfl⟩

/-- What a command does with its response keeps the invariant. -/
theorem inv_release {s : State} {i : Instr} (hi : s.Inv) (hp : s.pos = .exch i (.release .ok)) :
    (closeOf i .ok (s.closeExchange .ok)).Inv := by
  have hrel : ∀ ph, posPhase (.exch i (.release .ok)) = some ph → (s.closeExchange .ok).Released ph :=
    fun ph hph => hi.released hp (by simp) hph .ok
  cases i with
  | cmdReset => exact inv_closeReset (hrel _ rfl)
  | cmdIfCond => exact inv_closeIfCond (hrel _ rfl)
  | cmdApp => exact inv_closeApp (hrel _ rfl)
  | acmdOpCond arg => exact inv_closeOpCond (hrel _ rfl)
  | cmdReadOcr => exact inv_closeReadOcr (hrel _ rfl)
  | cmd idx arg => exact absurd rfl (hi.ne_cmd hp idx arg)

/-- The events inside an exchange keep the invariant. -/
theorem ExchangeEvent.inv {i : Instr} {s t : State} {x : ExchangePos} (hi : s.Inv) (hp : s.pos = .exch i x)
    (h : ExchangeEvent i s x t) : t.Inv := by
  have hread := hi.readOk
  rw [State.ReadOk, hp] at hread
  cases h with
  | frame k => exact inv_frameByteSent hi hp
  | token hleft => exact inv_tokenRead hi hp hleft
  | tokenSpent hspent =>
    obtain ⟨c, hc⟩ := tokenTimeoutCause_isSome (hi.ne_cmd hp)
    rw [closeOf_timeoutToken hc]
    exact (hi.released hp (by simp) (hi.posPhase_exch hp _) _).inv_raise (tokenTimeoutCause_ne_tBusy hc)
  | extra k => exact inv_extraRead hi hp
  | drain hleft => exact hread.elim
  | drainSpent hspent => exact hread.elim
  | dummy cleared => exact hread.elim
  | release res =>
    obtain ⟨rfl, _⟩ := hread
    exact inv_release hi hp

/-- The start operation on a constructed session meets the invariant (R152, R153). -/
theorem inv_startRun {s : State} {rest : List HostOp} (hi : s.Inv) (hp : s.pos = .rest) (hph : s.phase = .constructed) :
    (s.startRun rest).Inv := by
  have hcap : s.isHighCapacity = none ∧ s.outcome = .none := by
    have hflags := hi.flagsOk
    rw [State.FlagsOk, hph] at hflags
    obtain ⟨_, _, _, hcap, hout, _⟩ := hflags
    exact ⟨hcap, hout⟩
  refine inv_of_outside (by simp [State.startRun]) rfl (lineOk_of_free rfl (by simp [State.startRun]))
    ⟨⟨rfl, rfl, rfl, hcap.1, hcap.2, rfl⟩, fun _ => rfl, ?_, ?_, ?_⟩ hi.withinBudgets
    (hi.firstCmdPending_eq.trans (by simp [State.beforeFirstFrame, State.startRun, hp, hph])) trivial
  all_goals simp [State.startRun]

/-- Construction meets the invariant, whatever the configuration, the handles and the environment (R35). -/
theorem inv_of_constructed {t : State} (hp : t.pos = .rest) (hph : t.phase = .constructed)
    (hflags : t.timedOut = none ∧ t.faulted = none ∧ t.isV2 = none ∧ t.isHighCapacity = none ∧ t.outcome = .none ∧
      t.cause = none) (hcount : t.negAttempts = none ∧ t.ocrAttempts = none ∧ t.tokenTries = none ∧ t.busyTries = none)
    (hfirst : t.firstCmdPending = true) : t.Inv := by
  refine inv_of_ended (.inr ⟨hp, .inl hph⟩) (lineOk_of_rest hp (by simp [hph]))
    (by simpa [State.FlagsOk, hph] using hflags) ?_ (by simp [hfirst, State.beforeFirstFrame, hp, hph])
  obtain ⟨hn, ho, ht, hb⟩ := hcount
  simp [State.WithinBudgets, hn, ho, ht, hb]

/-- Before `DONE` the session's phase is READY or FAULTED, and at rest it may be CONSTRUCTED besides. -/
theorem State.Inv.ended {s : State} (hi : s.Inv) :
    (s.pos = .rest → s.phase = .constructed ∨ s.phase = .ready ∨ s.phase = .faulted) ∧
    (s.pos = .done → s.phase = .ready ∨ s.phase = .faulted) := by
  obtain ⟨_, ⟨_, hrest, hdone, _⟩, _⟩ := hi
  exact ⟨hrest, hdone⟩

/-- `FlagsOk` speaks of the record, the cause and whether the Faulted procedure is in progress only. -/
theorem flagsOk_of_sameRecord {s t : State} (h : s.SameRecord t) (hc : t.cause = s.cause)
    (hp : inFaultProcedure t.pos = inFaultProcedure s.pos) (hs : s.FlagsOk) : t.FlagsOk := by
  obtain ⟨hph, hto, hfa, hv, hcap, hout⟩ := h
  rw [State.FlagsOk, hph, hto, hfa, hv, hcap, hout, hc, hp]
  exact hs

/-- The caller's operations keep the invariant. -/
theorem hostStep_inv {s t : State} (hi : s.Inv) (hp : s.pos = .rest) (h : hostStep s = .next t) : t.Inv := by
  have hline := hostStep_lineOk hi.lineOk hp h
  have hended := hi.ended.1 hp
  have hfirst := hi.firstCmdPending_eq
  rcases hostStep_next h with ⟨_, rfl⟩ | ⟨cs, bus, rest, _, rfl⟩ | ⟨rest, _, hph, rfl⟩ | ⟨rest, _, hph, rfl⟩ |
    ⟨a, rest, v, _, _, rfl⟩
  · exact hi
  · exact inv_of_constructed rfl rfl ⟨rfl, rfl, rfl, rfl, rfl, rfl⟩ ⟨rfl, rfl, rfl, rfl⟩ rfl
  · exact inv_startRun hi hp hph
  · exact inv_of_ended (.inl ⟨rfl, .inr hph⟩) hline
      (flagsOk_of_sameRecord (s := s) (by constructor <;> rfl) rfl (by rw [hp]; rfl) hi.flagsOk) hi.withinBudgets
      (hfirst.trans (by simp [State.beforeFirstFrame, hp, hph, State.startFaulted]))
  · exact inv_of_ended (.inr ⟨hp, hended⟩) hline hi.flagsOk hi.withinBudgets hfirst

/-- `DONE` keeps the invariant. -/
theorem inv_finishRun {s : State} (hi : s.Inv) (hp : s.pos = .done) (hline : s.finishRun.LineOk) : s.finishRun.Inv := by
  have hph := hi.ended.2 hp
  refine inv_of_ended (.inr ⟨rfl, .inr hph⟩) hline
    (flagsOk_of_sameRecord (s := s) (by constructor <;> rfl) rfl (by rw [hp]; rfl) hi.flagsOk) hi.withinBudgets
    (hi.firstCmdPending_eq.trans ?_)
  rcases hph with hph | hph <;> simp [State.beforeFirstFrame, hp, hph]

/-- Settles O46: by kind of step, each of which leads to a state that meets the invariant's clauses for its position. -/
theorem invariantIsKept : Obligations.InvariantIsKept := by
  intro s t hi h
  have hline := chipSelectDisciplineIsKept s t hi.lineOk h
  rcases step_event h with ⟨hp, hhost⟩ | hown | ⟨i, u, hr, hout, rfl⟩ | ⟨i, x, hp, hev⟩ | ⟨hp, rfl⟩
  · exact hostStep_inv hi hp hhost
  · exact hown.inv hi
  · obtain ⟨c, hp, hs⟩ := hi.runs_outside hr hout
    exact inv_issued hi hp hs
  · exact hev.inv hi hp
  · exact inv_finishRun hi hp hline

/-- Settles O45: construction writes every element that the invariant speaks of, and reset is construction. -/
theorem constructionMeetsInvariant : Obligations.ConstructionMeetsInvariant := by
  have hinv : ∀ p cs bus, (State.construct p cs bus).Inv := fun p cs bus =>
    inv_of_constructed rfl rfl ⟨rfl, rfl, rfl, rfl, rfl, rfl⟩ ⟨rfl, rfl, rfl, rfl⟩ rfl
  exact ⟨fun p cs bus => ⟨hinv p cs bus, rfl, rfl⟩, hinv _ _ _, rfl, rfl, rfl, rfl, rfl, rfl, rfl, rfl, rfl, rfl, rfl⟩

end Sys2Proof.Machine
end

section
/-! The bound on the events of a run (R171): every step lowers it. -/

namespace Sys2Proof.Machine

/-- Any loop head's bound leaves room for the Faulted procedure and `DONE` (R171). -/
theorem three_le_attemptLeft (p : Params) (n : Nat) : 3 ≤ attemptLeft p n := by
  unfold attemptLeft registerLeft
  omega

theorem three_le_registerLeft (p : Params) (n : Nat) : 3 ≤ registerLeft p n := Nat.le_add_left 3 _

/-- The negotiation's bound has room for the register-read loop (R165). -/
theorem registerLeft_le_attemptLeft (p : Params) (n : Nat) : registerLeft p p.ocrRetries ≤ attemptLeft p n :=
  Nat.le_add_left _ _

/-- What follows the exchange of any command of the sequence has room for the Faulted procedure and `DONE`. -/
theorem three_le_afterExchangeLeft (s : State) {i : Instr} (h : ∀ idx arg, i ≠ .cmd idx arg) :
    3 ≤ afterExchangeLeft s i := by
  cases i with
  | cmdReset => exact (three_le_attemptLeft _ _).trans (Nat.le_add_left _ _)
  | cmdIfCond => exact three_le_attemptLeft _ _
  | cmdApp => exact (three_le_attemptLeft _ _).trans (Nat.le_add_left _ _)
  | acmdOpCond arg => exact three_le_attemptLeft _ _
  | cmdReadOcr => exact three_le_registerLeft _ _
  | cmd idx arg => exact absurd rfl (h idx arg)

/-- Every place of an exchange has at least its own event left. -/
theorem exchangeLeft_pos (s : State) (sh : Shape) (x : ExchangePos) : 1 ≤ exchangeLeft s sh x := by
  cases x <;> simp only [exchangeLeft] <;> omega

/-- A decision leads to a place from which no more events are left than follow the exchange. -/
theorem eventsLeft_closeOf_le {i : Instr} {res : ReadResult} (u : State) (h : ∀ idx arg, i ≠ .cmd idx arg) :
    (closeOf i res u).eventsLeft ≤ afterExchangeLeft u i := by
  have hraise : 3 ≤ afterExchangeLeft u i := three_le_afterExchangeLeft u h
  cases res with
  | timeoutToken =>
    obtain ⟨c, hc⟩ := tokenTimeoutCause_isSome h
    rw [closeOf_timeoutToken hc]
    exact hraise
  | timeoutBusy =>
    cases i with
    | cmd idx arg => exact absurd rfl (h idx arg)
    | _ => exact hraise
  | ok =>
    cases i with
    | cmdReset =>
      simp only [closeOf, closeReset]
      split_ifs
      · exact le_rfl
      · exact hraise
    | cmdIfCond =>
      simp only [closeOf, closeIfCond]
      split_ifs
      · exact le_rfl
      · exact le_rfl
      · exact hraise
    | cmdApp => exact le_rfl
    | acmdOpCond arg =>
      simp only [closeOf, closeOpCond, afterNegotiation]
      split_ifs
      · exact registerLeft_le_attemptLeft _ _
      · exact (by omega : 1 ≤ 3).trans hraise
      · exact hraise
      · exact le_rfl
    | cmdReadOcr =>
      simp only [closeOf, closeReadOcr]
      split_ifs
      · exact (by omega : 1 ≤ 3).trans hraise
      · exact le_rfl
    | cmd idx arg => exact absurd rfl (h idx arg)

theorem eventsLeft_of_exch {s : State} {i : Instr} {x : ExchangePos} (hp : s.pos = .exch i x) :
    s.eventsLeft = exchangeLeft s (instrShape s.shape i) x + afterExchangeLeft s i := by
  rw [State.eventsLeft, hp]

/-- A frame byte lowers the exchange's bound (R101). -/
theorem eventsLeft_frameByteSent_lt {s : State} {i : Instr} {k : Fin 6} (hp : s.pos = .exch i (.frame k)) :
    (s.frameByteSent i k).eventsLeft < s.eventsLeft := by
  rw [eventsLeft_of_exch hp, exchangeLeft]
  unfold State.frameByteSent
  split
  · refine Nat.add_lt_add_right
      (?_ : 6 - (k.val + 1) + s.params.tokenRetries + readTail s.params (instrShape s.shape i) + 1 < _)
      (afterExchangeLeft s i)
    omega
  · refine Nat.add_lt_add_right (?_ : s.params.tokenRetries - 0 + readTail s.params (instrShape s.shape i) + 1 < _)
      (afterExchangeLeft s i)
    omega

/-- What follows a token is bounded by the shape's tail of the read (R122 to R125). -/
theorem exchangeLeft_afterToken_le (t : State) (sh : Shape) (hbusy : sh = .s1b → t.busyTries = some 0) :
    exchangeLeft t sh (afterToken sh) ≤ readTail t.params sh + 1 := by
  cases sh with
  | s1b => simp [exchangeLeft, afterToken, readTail, State.busyCount, hbusy]
  | _ => exact le_rfl

/-- A read of the token search lowers the exchange's bound while the budget is not spent (R121). -/
theorem eventsLeft_tokenRead_lt {s : State} {i : Instr} (hp : s.pos = .exch i .token)
    (hcount : s.tokenCount + 1 ≤ s.params.tokenRetries) :
    (s.tokenRead i (instrShape s.shape i)).eventsLeft < s.eventsLeft := by
  rw [eventsLeft_of_exch hp, exchangeLeft]
  unfold State.tokenRead
  split
  · refine Nat.add_lt_add_right (lt_of_le_of_lt (exchangeLeft_afterToken_le _ _ fun h => if_pos h) ?_)
      (afterExchangeLeft s i)
    change readTail s.params (instrShape s.shape i) + 1 < _
    omega
  · refine Nat.add_lt_add_right
      (?_ : s.params.tokenRetries - (s.tokenCount + 1) + readTail s.params (instrShape s.shape i) + 1 < _)
      (afterExchangeLeft s i)
    omega

/-- A byte after the token lowers the exchange's bound, at a place of the shape (R123, R124). -/
theorem eventsLeft_extraRead_lt {s : State} {i : Instr} {k : Fin 4} (hp : s.pos = .exch i (.extra k))
    (hk : k.val + 1 < shapeLen (instrShape s.shape i)) :
    (s.extraRead i (instrShape s.shape i) k).eventsLeft < s.eventsLeft := by
  rw [eventsLeft_of_exch hp, exchangeLeft]
  unfold State.extraRead
  rcases afterExtra_cases (instrShape s.shape i) k with ⟨hk4, hnext, _⟩ | ⟨hnext, _⟩ <;> rw [hnext]
  · refine Nat.add_lt_add_right (?_ : shapeLen (instrShape s.shape i) - (k.val + 1 + 1) + 1 < _) (afterExchangeLeft s i)
    omega
  · refine Nat.add_lt_add_right (?_ : 1 < _) (afterExchangeLeft s i)
    omega

/-- The decision on a result leaves fewer events than the place of the release. -/
theorem eventsLeft_close_lt {s : State} {i : Instr} {x : ExchangePos} {res : ReadResult} (hi : s.Inv)
    (hp : s.pos = .exch i x) : (closeOf i res (s.closeExchange res)).eventsLeft < s.eventsLeft := by
  have hclose : (closeOf i res (s.closeExchange res)).eventsLeft ≤ afterExchangeLeft s i :=
    eventsLeft_closeOf_le (s.closeExchange res) (hi.ne_cmd hp)
  have hevent := exchangeLeft_pos s (instrShape s.shape i) x
  rw [eventsLeft_of_exch hp]
  omega

/-- Every event inside an exchange of a session lowers the bound. -/
theorem ExchangeEvent.eventsLeft_lt {i : Instr} {s t : State} {x : ExchangePos} (hi : s.Inv) (hp : s.pos = .exch i x)
    (h : ExchangeEvent i s x t) : t.eventsLeft < s.eventsLeft := by
  have hread := hi.readOk
  rw [State.ReadOk, hp] at hread
  cases h with
  | frame k => exact eventsLeft_frameByteSent_lt hp
  | token hleft => exact eventsLeft_tokenRead_lt hp (hi.tokenCount_lt hp hleft)
  | tokenSpent hspent => exact eventsLeft_close_lt hi hp
  | extra k =>
    obtain ⟨_, hk, _⟩ := hread
    exact eventsLeft_extraRead_lt hp hk
  | drain hleft => exact hread.elim
  | drainSpent hspent => exact hread.elim
  | dummy cleared => exact hread.elim
  | release res => exact eventsLeft_close_lt hi hp

/-- From a loop's head with one attempt more left, that attempt's two exchanges come before the next head. -/
theorem attemptLeft_succ (p : Params) (n : Nat) :
    attemptLeft p (n + 1) = exchangeBound p .s1 + exchangeBound p .s5 + attemptLeft p n := by
  unfold attemptLeft
  rw [Nat.succ_mul]
  omega

theorem registerLeft_succ (p : Params) (n : Nat) : registerLeft p (n + 1) = exchangeBound p .s5 + registerLeft p n := by
  unfold registerLeft
  rw [Nat.succ_mul]
  omega

/-- The opening of an exchange is one event of its bound. -/
theorem exchangeLeft_first (s : State) (sh : Shape) : exchangeLeft s sh (.frame 0) + 1 = exchangeBound s.params sh := by
  simp only [exchangeLeft, exchangeBound, Fin.val_zero]
  omega

/-- The opening of a command's exchange lowers the bound, at each place of the sequence. -/
theorem eventsLeft_issued_lt {s u : State} {c : SeqPos} {i : Instr} (hi : s.Inv) (hp : s.pos = .command c)
    (hrun : issue c s = .run i u) :
    (u.openExchange i (i.index u.params) (i.argument u.params)).eventsLeft < s.eventsLeft := by
  have hbudget := hi.withinBudgets
  obtain ⟨hn, ho, _, _⟩ := hbudget
  have hopen := exchangeLeft_first s
  rcases issue_run hrun with ⟨rfl, rfl, rfl⟩ | ⟨rfl, rfl, rfl⟩ | ⟨rfl, rfl, hne, rfl⟩ | ⟨rfl, rfl, rfl⟩ |
    ⟨rfl, rfl, hne, rfl⟩
  · have := hopen .s1
    rw [State.eventsLeft, State.eventsLeft, hp]
    change exchangeLeft u .s1 (.frame 0) + issueLeft u .probe < issueLeft u .reset
    simp only [issueLeft]
    omega
  · have := hopen .s5
    rw [State.eventsLeft, State.eventsLeft, hp]
    change exchangeLeft u .s5 (.frame 0) + attemptLeft u.params u.params.negRetries < issueLeft u .probe
    simp only [issueLeft]
    omega
  · have := hopen .s1
    have hneg : s.negAttempts.isSome = true := by
      have hphase : posPhase s.pos = some .negotiate := by rw [hp]; rfl
      obtain ⟨_, _, _, hneg, _⟩ := hi.recordOk hphase
      exact hneg (hi.phase_eq hphase)
    have hlt : s.negCount + 1 ≤ s.params.negRetries := counted_le hneg hn hne
    rw [State.eventsLeft, State.eventsLeft, hp]
    change exchangeLeft s .s1 (.frame 0) + (exchangeBound s.params .s5 +
      attemptLeft s.params (s.params.negRetries - (s.negCount + 1))) <
      attemptLeft s.params (s.params.negRetries - s.negCount)
    rw [show s.params.negRetries - s.negCount = s.params.negRetries - (s.negCount + 1) + 1 by omega, attemptLeft_succ]
    omega
  · have := hopen .s5
    rw [State.eventsLeft, State.eventsLeft, hp]
    change exchangeLeft u .s5 (.frame 0) + issueLeft u .attempt < issueLeft u .query
    simp only [issueLeft]
    omega
  · have := hopen .s5
    have hocr : s.ocrAttempts.isSome = true := by
      have hphase : posPhase s.pos = some .readOcr := by rw [hp]; rfl
      obtain ⟨_, _, _, _, hocr⟩ := hi.recordOk hphase
      exact hocr (hi.phase_eq hphase)
    have hlt : s.ocrCount + 1 ≤ s.params.ocrRetries := counted_le hocr ho hne
    rw [State.eventsLeft, State.eventsLeft, hp]
    change exchangeLeft s .s5 (.frame 0) + registerLeft s.params (s.params.ocrRetries - (s.ocrCount + 1)) <
      registerLeft s.params (s.params.ocrRetries - s.ocrCount)
    rw [show s.params.ocrRetries - s.ocrCount = s.params.ocrRetries - (s.ocrCount + 1) + 1 by omega, registerLeft_succ]
    omega

/-- The sequencer's own events lower the bound. -/
theorem SequencerEvent.eventsLeft_lt {s t : State} (h : SequencerEvent s t) : t.eventsLeft < s.eventsLeft := by
  cases h with
  | cfgClk hp =>
    rw [State.eventsLeft, State.eventsLeft, hp]
    change 2 + (s.params.nIdleHigh + 1) + (s.params.nIdleLow + 1) + issueLeft s .reset < _
    dsimp only
    omega
  | cfgOut hp =>
    rw [State.eventsLeft, State.eventsLeft, hp]
    change 1 + (s.params.nIdleHigh + 1) + (s.params.nIdleLow + 1) + issueLeft s .reset < _
    dsimp only
    omega
  | csFirst hp =>
    rw [State.eventsLeft, State.eventsLeft, hp]
    change s.params.nIdleHigh - 0 + 1 + (s.params.nIdleLow + 1) + issueLeft s .reset < _
    dsimp only
    omega
  | @idleHigh k hp hk =>
    rw [State.eventsLeft, State.eventsLeft, hp]
    change s.params.nIdleHigh - (k + 1) + 1 + (s.params.nIdleLow + 1) + issueLeft s .reset < _
    dsimp only
    omega
  | @assertLine k hp =>
    rw [State.eventsLeft, State.eventsLeft, hp]
    change s.params.nIdleLow - 0 + 1 + issueLeft s .reset < _
    dsimp only
    omega
  | @idleLow k hp hk =>
    rw [State.eventsLeft, State.eventsLeft, hp]
    change s.params.nIdleLow - (k + 1) + 1 + issueLeft s .reset < _
    dsimp only
    omega
  | releaseLine hp =>
    rw [State.eventsLeft, State.eventsLeft, hp]
    change issueLeft s .reset < _
    dsimp only
    omega
  | @spentBudget c cause hp hs =>
    rw [State.eventsLeft, State.eventsLeft, hp]
    rcases issue_stop hs with ⟨rfl, _⟩ | ⟨rfl, _⟩
    · exact three_le_attemptLeft _ _
    · exact three_le_registerLeft _ _
  | faultRelease hp =>
    rw [State.eventsLeft, State.eventsLeft, hp]
    exact (by omega : 2 < 3)
  | faultDummy hp =>
    rw [State.eventsLeft, State.eventsLeft, hp]
    exact (by omega : 1 < 2)

/-- R171's sum: the setup, the two single exchanges, the two loops, the Faulted procedure and `DONE`. -/
theorem eventsLeft_cfgClk {s : State} (hp : s.pos = .cfgClk) : s.eventsLeft = runBound s.params + 1 := by
  rw [State.eventsLeft, hp]
  simp only [issueLeft, attemptLeft, registerLeft, exchangeBound, readTail, runBound]
  ring

/-- Settles O50: by kind of step; a run's start has R171's bound and `DONE` left. -/
theorem eventsLeftGoDown : Obligations.EventsLeftGoDown := by
  refine ⟨fun s t hi hrun h => ?_, fun s => eventsLeft_cfgClk⟩
  rcases step_event h with ⟨hp, _⟩ | hown | ⟨i, u, hr, hout, rfl⟩ | ⟨i, x, hp, hev⟩ | ⟨hp, rfl⟩
  · exact absurd hp hrun
  · exact hown.eventsLeft_lt
  · obtain ⟨c, hp, hs⟩ := hi.runs_outside hr hout
    exact eventsLeft_issued_lt hi hp hs
  · exact hev.eventsLeft_lt hi hp
  · rw [State.eventsLeft, State.eventsLeft, hp]
    exact Nat.one_pos

end Sys2Proof.Machine
end

section
/-! What every step leaves, by kind of step: the trace and the handles (R5, R21, R22), the setup events (R173), the
sticky flags (R23, R24), the phases (R150), and the end of a run (R205). -/

namespace Sys2Proof.Machine

/-- The command that a step runs starts from the step's state, but for the counter its loop head has written. -/
theorem State.Runs.fields {s u : State} {i : Instr} (h : s.Runs i u) :
    u.chipSelect = s.chipSelect ∧ u.busHandle = s.busHandle ∧ u.trace = s.trace ∧ u.env = s.env ∧ u.phase = s.phase ∧
    u.firstCmdPending = s.firstCmdPending ∧ u.params = s.params ∧ u.pos = s.pos ∧ u.timedOut = s.timedOut ∧
    u.faulted = s.faulted := by
  obtain ⟨n, o, rfl⟩ := h.start_eq
  exact ⟨rfl, rfl, rfl, rfl, rfl, rfl, rfl, rfl, rfl, rfl⟩

/-- A collaborator call of a run: one event on the session's own handles is appended, the call takes its entry of the
script, and the handles and the configuration stay (R5, R21, R22, R38). -/
structure State.CallEvent (s t : State) (e : Event) : Prop where
  trace : t.trace = s.trace ++ [e]
  own : onHandles s e = true
  chipSelect : t.chipSelect = s.chipSelect
  busHandle : t.busHandle = s.busHandle
  params : t.params = s.params
  env : (t.env = s.envRest ∧ ∃ o, e = .xchg s.busHandle o s.rxByte) ∨ (t.env = s.envReturned ∧ isXchg e = false)

/-- Each of the sequencer's own events is a collaborator call. -/
theorem SequencerEvent.callEvent {s t : State} (h : SequencerEvent s t) : ∃ e, s.CallEvent t e := by
  cases h with
  | cfgClk hp => exact ⟨_, rfl, by simp [onHandles], rfl, rfl, rfl, .inr ⟨rfl, rfl⟩⟩
  | cfgOut hp => exact ⟨_, rfl, by simp [onHandles], rfl, rfl, rfl, .inr ⟨rfl, rfl⟩⟩
  | csFirst hp => exact ⟨_, rfl, by simp [onHandles], rfl, rfl, rfl, .inr ⟨rfl, rfl⟩⟩
  | idleHigh hp hk => exact ⟨_, rfl, by simp [onHandles], rfl, rfl, rfl, .inl ⟨rfl, _, rfl⟩⟩
  | assertLine hp => exact ⟨_, rfl, by simp [onHandles], rfl, rfl, rfl, .inr ⟨rfl, rfl⟩⟩
  | idleLow hp hk => exact ⟨_, rfl, by simp [onHandles], rfl, rfl, rfl, .inl ⟨rfl, _, rfl⟩⟩
  | releaseLine hp => exact ⟨_, rfl, by simp [onHandles], rfl, rfl, rfl, .inr ⟨rfl, rfl⟩⟩
  | spentBudget hp hi => exact ⟨_, rfl, by simp [onHandles], rfl, rfl, rfl, .inr ⟨rfl, rfl⟩⟩
  | faultRelease hp => exact ⟨_, rfl, by simp [onHandles], rfl, rfl, rfl, .inr ⟨rfl, rfl⟩⟩
  | faultDummy hp => exact ⟨_, rfl, by simp [onHandles], rfl, rfl, rfl, .inl ⟨rfl, _, rfl⟩⟩

/-- The opening of an exchange is a collaborator call. -/
theorem State.Runs.callEvent_open {s u : State} {i : Instr} (h : s.Runs i u) (idx : Byte) (arg : Arg) :
    s.CallEvent (u.openExchange i idx arg) (.cs s.chipSelect .low) := by
  obtain ⟨n, o, rfl⟩ := h.start_eq
  exact ⟨rfl, by simp [onHandles], rfl, rfl, rfl, .inr ⟨rfl, rfl⟩⟩

/-- Each event inside an exchange is a collaborator call. -/
theorem ExchangeEvent.callEvent {i : Instr} {s t : State} {x : ExchangePos} (h : ExchangeEvent i s x t) :
    ∃ e, s.CallEvent t e := by
  rcases h.byte_or_close with ⟨out, p, n, m, r, y, rfl⟩ | ⟨res, _, rfl⟩
  · exact ⟨_, rfl, by simp [onHandles], rfl, rfl, rfl, .inl ⟨rfl, _, rfl⟩⟩
  · obtain ⟨_, _, _, _, _, _, _, hclose⟩ := closeOf_eq i res (s.closeExchange res)
    rw [hclose]
    exact ⟨_, rfl, by simp [onHandles], rfl, rfl, rfl, .inr ⟨rfl, rfl⟩⟩

/-- A step serves the caller, is a collaborator call, or is `DONE`. -/
theorem step_callEvent {s t : State} (h : step s = .next t) :
    (s.pos = .rest ∧ hostStep s = .next t) ∨ (∃ e, s.CallEvent t e) ∨ (s.pos = .done ∧ t = s.finishRun) := by
  rcases step_event h with hhost | hown | ⟨i, u, hr, _, rfl⟩ | ⟨i, x, _, hev⟩ | hdone
  · exact .inl hhost
  · exact .inr (.inl hown.callEvent)
  · exact .inr (.inl ⟨_, hr.callEvent_open _ _⟩)
  · exact .inr (.inl hev.callEvent)
  · exact .inr (.inr hdone)

/-- Settles O14: a collaborator call and `DONE` append their own event; of the caller's operations only the start
operation appends one, and construction begins a new trace. -/
theorem oneEventPerStep : Obligations.OneEventPerStep := by
  refine fun s t h => ⟨fun hrun => ?_, fun hrest => ?_⟩
  · rcases step_callEvent h with ⟨hp, _⟩ | ⟨e, he⟩ | ⟨_, rfl⟩
    · exact absurd hp hrun
    · exact ⟨e, he.trace⟩
    · exact ⟨_, rfl⟩
  · rw [step_of_valid (step_next h).1, stepValid, hrest] at h
    rcases hostStep_next h with ⟨_, rfl⟩ | ⟨cs, bus, rest, hh, rfl⟩ | ⟨rest, _, _, rfl⟩ | ⟨rest, _, _, rfl⟩ |
      ⟨a, rest, v, _, _, rfl⟩
    · exact .inl rfl
    · exact .inr (.inr ⟨by simp [State.constructsNext, hh], rfl⟩)
    · exact .inr (.inl rfl)
    · exact .inr (.inl rfl)
    · exact .inl rfl

/-- The caller's operations, construction aside, leave the handles and append `START` at most. -/
theorem hostStep_handles {s t : State} (hc : s.constructsNext = false) (h : hostStep s = .next t) :
    t.chipSelect = s.chipSelect ∧ t.busHandle = s.busHandle ∧ (t.trace = s.trace ∨ t.trace = s.trace ++ [.start]) := by
  rcases hostStep_next h with ⟨_, rfl⟩ | ⟨cs, bus, rest, hh, rfl⟩ | ⟨rest, _, _, rfl⟩ | ⟨rest, _, _, rfl⟩ |
    ⟨a, rest, v, _, _, rfl⟩
  · exact ⟨rfl, rfl, .inl rfl⟩
  · simp [State.constructsNext, hh] at hc
  · exact ⟨rfl, rfl, .inr rfl⟩
  · exact ⟨rfl, rfl, .inr rfl⟩
  · exact ⟨rfl, rfl, .inl rfl⟩

/-- Settles O39: a collaborator call acts on the session's handles and leaves them; construction copies the caller's
arguments. -/
theorem eventsActOnOwnHandles : Obligations.EventsActOnOwnHandles := by
  refine fun s t h => ⟨fun hc => ?_, fun cs bus rest hp hh => ?_⟩
  · rcases step_callEvent h with ⟨hp, hhost⟩ | ⟨e, he⟩ | ⟨_, rfl⟩
    · obtain ⟨hcs, hbus, htrace⟩ := hostStep_handles (hc hp) hhost
      exact ⟨hcs, hbus, htrace.imp_right fun e => ⟨.start, e, rfl⟩⟩
    · exact ⟨he.chipSelect, he.busHandle, .inr ⟨e, he.trace, he.own⟩⟩
    · exact ⟨rfl, rfl, .inr ⟨_, rfl, rfl⟩⟩
  · rw [step_of_valid (step_next h).1, stepValid, hp] at h
    simp only [hostStep, hh, Host.Outcome.next.injEq] at h
    subst h
    exact ⟨rfl, rfl⟩

/-- Settles O27: a byte exchange stays in the exchange; a release leads out of it, and no issuing rule leads back in. -/
theorem exchangeIsBracketed : Obligations.ExchangeIsBracketed := by
  intro s t i x hp h
  rw [step_of_exch (step_next h).1 hp] at h
  rcases exec_next h with ⟨hout, _⟩ | ⟨j, y, _, hev⟩
  · exact absurd hp (hout i x)
  · rcases hev.byte_or_close with ⟨out, p, n, m, r, z, rfl⟩ | ⟨res, _, rfl⟩
    · exact .inl ⟨_, _, z, rfl, rfl, rfl⟩
    · exact .inr ⟨closeOf_trace i res _, closeOf_csLevel i res _, fun j y => closeOf_pos_ne_exch i res _ j y⟩

/-- The sixth frame byte clears `first_cmd_pending`, and no other event of an exchange writes it (R102). -/
theorem ExchangeEvent.firstCmdPending_eq {i : Instr} {s t : State} {x : ExchangePos} (h : ExchangeEvent i s x t) :
    t.firstCmdPending = if x = .frame 5 then false else s.firstCmdPending := by
  cases h with
  | frame k =>
    unfold State.frameByteSent
    split
    · have hk : k ≠ 5 := by rintro rfl; simp at *
      simp [hk]
    · have hk : k = 5 := by omega
      simp [hk]
  | token hleft => unfold State.tokenRead; split <;> rfl
  | tokenSpent hspent =>
    obtain ⟨_, _, _, _, _, _, _, hclose⟩ := closeOf_eq i .timeoutToken (s.closeExchange .timeoutToken)
    rw [hclose]
    rfl
  | release res =>
    obtain ⟨_, _, _, _, _, _, _, hclose⟩ := closeOf_eq i res (s.closeExchange res)
    rw [hclose]
    rfl
  | _ => rfl

/-- The sequencer's own events are outside every exchange. -/
theorem SequencerEvent.outside {s t : State} (h : SequencerEvent s t) (j : Instr) (x : ExchangePos) :
    s.pos ≠ .exch j x := by
  cases h with
  | _ hp => simp [hp]

/-- The sequencer's own events are events of a run. -/
theorem SequencerEvent.running {s t : State} (h : SequencerEvent s t) : s.running := by
  cases h with
  | _ hp => simp [State.running, hp]

/-- The sequencer's own events leave `first_cmd_pending`. -/
theorem SequencerEvent.firstCmdPending_eq {s t : State} (h : SequencerEvent s t) :
    t.firstCmdPending = s.firstCmdPending := by
  cases h <;> rfl

/-- The caller's operations leave `first_cmd_pending`, a new session aside. -/
theorem hostStep_firstCmdPending {s t : State} (hc : s.constructsNext = false) (h : hostStep s = .next t) :
    t.firstCmdPending = s.firstCmdPending := by
  rcases hostStep_next h with ⟨_, rfl⟩ | ⟨cs, bus, rest, hh, rfl⟩ | ⟨rest, _, _, rfl⟩ | ⟨rest, _, _, rfl⟩ |
    ⟨a, rest, v, _, _, rfl⟩
  · rfl
  · simp [State.constructsNext, hh] at hc
  · rfl
  · rfl
  · rfl

/-- Settles O40: the flag's only write is the sixth frame byte's. -/
theorem firstCommandFlagIsClearedOnce : Obligations.FirstCommandFlagIsClearedOnce := by
  intro s t h hc
  rcases step_event h with ⟨hp, hhost⟩ | hown | ⟨i, u, hr, hout, rfl⟩ | ⟨i, x, hp, hev⟩ | ⟨hp, rfl⟩
  · exact ⟨fun i hi => by simp [hp] at hi, fun _ => hostStep_firstCmdPending (hc hp) hhost⟩
  · exact ⟨fun i hi => absurd hi (hown.outside i _), fun _ => hown.firstCmdPending_eq⟩
  · obtain ⟨n, o, rfl⟩ := hr.start_eq
    exact ⟨fun j hj => absurd hj (hout j _), fun _ => rfl⟩
  · rw [hev.firstCmdPending_eq, hp]
    refine ⟨fun j hj => ?_, fun hne => if_neg fun hx => hne i (by rw [hx])⟩
    obtain ⟨_, hx⟩ : i = j ∧ x = .frame 5 := by simpa using hj
    exact if_pos hx
  · exact ⟨fun i hi => by simp [hp] at hi, fun _ => rfl⟩

/-- An event of a command leaves `timed_out` and `faulted` (R24, R36). -/
theorem ExchangeEvent.failureFlags_eq {i : Instr} {s t : State} {x : ExchangePos} (h : ExchangeEvent i s x t) :
    t.timedOut = s.timedOut ∧ t.faulted = s.faulted := by
  rcases h.byte_or_close with ⟨out, p, n, m, r, y, rfl⟩ | ⟨res, _, rfl⟩
  · exact ⟨rfl, rfl⟩
  · obtain ⟨_, _, _, _, _, _, _, hclose⟩ := closeOf_eq i res (s.closeExchange res)
    rw [hclose]
    exact ⟨rfl, rfl⟩

/-- Settles O41: the flags are written at the start of a run, where they are `UNWRITTEN`, and by the Faulted procedure,
which sets them. -/
theorem stickyFlagsStaySet : Obligations.StickyFlagsStaySet := by
  intro s t hi h hc
  rcases step_event h with ⟨hp, hhost⟩ | hown | ⟨i, u, hr, _, rfl⟩ | ⟨i, x, _, hev⟩ | ⟨_, rfl⟩
  · rcases hostStep_next hhost with ⟨_, rfl⟩ | ⟨cs, bus, rest, hh, rfl⟩ | ⟨rest, _, hph, rfl⟩ | ⟨rest, _, _, rfl⟩ |
      ⟨a, rest, v, _, _, rfl⟩
    · exact ⟨id, id⟩
    · simp [State.constructsNext, hh] at hc
      exact absurd hp hc
    · have hflags := hi.flagsOk
      rw [State.FlagsOk, hph] at hflags
      obtain ⟨hto, hfa, _⟩ := hflags
      simp [hto, hfa]
    · exact ⟨id, id⟩
    · exact ⟨id, id⟩
  · cases hown with
    | @faultDummy c hp =>
      refine ⟨fun _ => rfl, fun hto => ?_⟩
      cases hcl : c.isTimeout <;> simp [State.faultFinished, hcl, hto]
    | _ => exact ⟨id, id⟩
  · obtain ⟨n, o, rfl⟩ := hr.start_eq
    exact ⟨id, id⟩
  · obtain ⟨hto, hfa⟩ := hev.failureFlags_eq
    rw [hto, hfa]
    exact ⟨id, id⟩
  · exact ⟨id, id⟩

/-- R150's table allows staying in a phase. -/
theorem allowedTransition_self (ph : Phase) : allowedTransition ph ph = true := by cases ph <;> rfl

/-- An issuing rule makes a transition of R150's table from its command's phase. -/
theorem allowedTransition_closeOf {i : Instr} {x : ExchangePos} {ph : Phase} (h : posPhase (.exch i x) = some ph)
    {u : State} (hu : u.phase = ph) (res : ReadResult) : allowedTransition ph (closeOf i res u).phase = true := by
  cases res with
  | timeoutToken => cases i <;> cases h <;> rfl
  | timeoutBusy => cases i <;> cases h <;> rfl
  | ok =>
    cases i with
    | cmdReset => cases h; simp only [closeOf, closeReset]; split_ifs <;> rfl
    | cmdIfCond => cases h; simp only [closeOf, closeIfCond]; split_ifs <;> rfl
    | cmdApp =>
      cases h
      rw [closeOf, closeApp, State.goTo_phase, hu]
      rfl
    | acmdOpCond arg =>
      cases h
      simp only [closeOf, closeOpCond, afterNegotiation]
      split_ifs
      · rfl
      · rfl
      · rfl
      · rw [State.goTo_phase, hu]
        rfl
    | cmdReadOcr =>
      cases h
      simp only [closeOf, closeReadOcr]
      split_ifs
      · rfl
      · rw [State.goTo_phase, hu]
        rfl
    | cmd idx arg => cases h

/-- Settles O42: a run starts from CONSTRUCTED, a loop head and an issuing rule lead from their command's own phase, and
no other event changes the phase. -/
theorem phaseTransitionsAllowed : Obligations.PhaseTransitionsAllowed := by
  intro s t hi h hc
  rcases step_event h with ⟨hp, hhost⟩ | hown | ⟨i, u, hr, _, rfl⟩ | ⟨i, x, hp, hev⟩ | ⟨_, rfl⟩
  · rcases hostStep_next hhost with ⟨_, rfl⟩ | ⟨cs, bus, rest, hh, rfl⟩ | ⟨rest, _, hph, rfl⟩ | ⟨rest, _, _, rfl⟩ |
      ⟨a, rest, v, _, _, rfl⟩
    · exact allowedTransition_self _
    · simp [State.constructsNext, hh] at hc
      exact absurd hp hc
    · rw [hph]
      rfl
    · exact allowedTransition_self _
    · exact allowedTransition_self _
  · cases hown with
    | spentBudget hp hs =>
      rcases issue_stop hs with ⟨rfl, _⟩ | ⟨rfl, _⟩
      · rw [hi.phase_eq (ph := .negotiate) (by rw [hp]; rfl)]
        rfl
      · rw [hi.phase_eq (ph := .readOcr) (by rw [hp]; rfl)]
        rfl
    | _ => exact allowedTransition_self _
  · obtain ⟨n, o, rfl⟩ := hr.start_eq
    exact allowedTransition_self _
  · rcases hev.byte_or_close with ⟨out, p, n, m, r, y, rfl⟩ | ⟨res, _, rfl⟩
    · exact allowedTransition_self _
    · exact allowedTransition_closeOf (u := s.closeExchange res) (hi.posPhase_exch hp x) rfl res
  · exact allowedTransition_self _

end Sys2Proof.Machine
end

section
/-! The setup events of a session (R173), progress (R52, R258), the environment's stops (R204, R258), and the end of a
run (R171, R205). -/

namespace Sys2Proof.Machine

/-- Past the setup's first two events both have been counted (R173). -/
theorem setupOnce_iff_of_later {s : State} (hph : s.phase ≠ .constructed) (hclk : s.pos ≠ .cfgClk)
    (hout : s.pos ≠ .cfgOut) : s.SetupOnce ↔ s.trace.countP isCfgClk = 1 ∧ s.trace.countP isCfgOut = 1 := by
  simp [State.SetupOnce, hph, hclk, hout]

/-- Past the setup's first two events a step that appends another event keeps the count. -/
theorem setupOnce_of_later {s t : State} {e : Event} (hs : s.SetupOnce) (hph : s.phase ≠ .constructed)
    (hclk : s.pos ≠ .cfgClk) (hout : s.pos ≠ .cfgOut) (htrace : t.trace = s.trace ++ [e])
    (he : isCfgClk e = false ∧ isCfgOut e = false) (hph' : t.phase ≠ .constructed) (hclk' : t.pos ≠ .cfgClk)
    (hout' : t.pos ≠ .cfgOut) : t.SetupOnce := by
  rw [setupOnce_iff_of_later hph hclk hout] at hs
  rw [setupOnce_iff_of_later hph' hclk' hout', htrace]
  simpa [he] using hs

/-- In a session every position of a run before `DONE` belongs to one phase, which is the session's. -/
theorem State.Inv.posPhase_eq {s : State} (hi : s.Inv) (hrest : s.pos ≠ .rest) (hdone : s.pos ≠ .done) :
    posPhase s.pos = some s.phase := by
  have hphase : ∀ q ph, s.pos = q → posPhase q = some ph → posPhase q = some s.phase := fun q ph hq h => by
    rw [hi.phase_eq (hq ▸ h), h]
  cases hp : s.pos with
  | rest => exact absurd hp hrest
  | done => exact absurd hp hdone
  | direct => exact absurd hp hi.ne_direct
  | exch i x => exact hi.posPhase_exch hp x
  | command c => cases c <;> exact hphase _ _ hp rfl
  | _ => exact hphase _ _ hp rfl

/-- In a run the session is past CONSTRUCTED. -/
theorem State.Inv.phase_ne_constructed {s : State} (hi : s.Inv) (hrest : s.pos ≠ .rest) : s.phase ≠ .constructed := by
  by_cases hdone : s.pos = .done
  · rcases hi.ended.2 hdone with h | h <;> simp [h]
  · rcases posPhase_cases (hi.posPhase_eq hrest hdone) with h | h | h | h | ⟨h, _⟩ <;> simp [h]

/-- Nothing but construction leads to CONSTRUCTED (R150). -/
theorem eq_constructed_of_allowedTransition {ph : Phase} (h : allowedTransition ph .constructed = true) :
    ph = .constructed := by
  cases ph with
  | constructed => rfl
  | _ => cases h

/-- A step of a run leads to no place before the setup. -/
theorem phase_ne_constructed_of_step {s t : State} (hi : s.Inv) (h : step s = .next t) (hrest : s.pos ≠ .rest) :
    t.phase ≠ .constructed := fun ht =>
  hi.phase_ne_constructed hrest
    (eq_constructed_of_allowedTransition (ht ▸ phaseTransitionsAllowed s t hi h fun hp => absurd hp hrest))

/-- The sequencer's own events keep the count of the setup events, and `CFG_CLK` and `CFG_OUT` are counted at their
places. -/
theorem SequencerEvent.setupOnce {s t : State} (hi : s.Inv) (hs : s.SetupOnce) (h : SequencerEvent s t)
    (hph' : t.phase ≠ .constructed) : t.SetupOnce := by
  have hph : s.pos ≠ .rest → s.phase ≠ .constructed := hi.phase_ne_constructed
  cases h with
  | cfgClk hp =>
    obtain ⟨hclk, hout⟩ := hs
    simp_all [State.SetupOnce, isCfgClk, isCfgOut]
  | cfgOut hp =>
    obtain ⟨hclk, hout⟩ := hs
    simp_all [State.SetupOnce, isCfgClk, isCfgOut]
  | _ hp =>
    exact setupOnce_of_later hs (hph (by simp [hp])) (by simp [hp]) (by simp [hp]) rfl ⟨rfl, rfl⟩ hph'
      Pos.noConfusion Pos.noConfusion

/-- No event of an exchange leads to the setup. -/
theorem closeOf_pos_ne_setup (i : Instr) (res : ReadResult) (u : State) :
    (closeOf i res u).pos ≠ .cfgClk ∧ (closeOf i res u).pos ≠ .cfgOut := by
  rcases posLevel_closeOf i res u with h | h
  · exact ⟨fun hq => by simp [hq, posLevel] at h, fun hq => by simp [hq, posLevel] at h⟩
  · simp [h]

/-- The events inside an exchange keep the count of the setup events. -/
theorem ExchangeEvent.setupOnce {i : Instr} {s t : State} {x : ExchangePos} (hi : s.Inv) (hs : s.SetupOnce)
    (hp : s.pos = .exch i x) (h : ExchangeEvent i s x t) (hph' : t.phase ≠ .constructed) : t.SetupOnce := by
  have hph : s.phase ≠ .constructed := hi.phase_ne_constructed (by simp [hp])
  rcases h.byte_or_close with ⟨out, p, n, m, r, y, rfl⟩ | ⟨res, _, rfl⟩
  · exact setupOnce_of_later hs hph (by simp [hp]) (by simp [hp]) rfl ⟨rfl, rfl⟩ hph' Pos.noConfusion Pos.noConfusion
  · obtain ⟨hclk, hout⟩ := closeOf_pos_ne_setup i res (s.closeExchange res)
    exact setupOnce_of_later hs hph (by simp [hp]) (by simp [hp]) (closeOf_trace i res _) ⟨rfl, rfl⟩ hph' hclk hout

/-- The caller's operations keep the count: no setup event has been issued where a session is constructed or a run
starts. -/
theorem hostStep_setupOnce {s t : State} (hs : s.SetupOnce) (hp : s.pos = .rest) (h : hostStep s = .next t) :
    t.SetupOnce := by
  rcases hostStep_next h with ⟨_, rfl⟩ | ⟨cs, bus, rest, _, rfl⟩ | ⟨rest, _, hph, rfl⟩ | ⟨rest, _, hph, rfl⟩ |
    ⟨a, rest, v, _, _, rfl⟩
  · exact hs
  · exact ⟨rfl, rfl⟩
  · simp_all [State.SetupOnce, State.startRun, isCfgClk, isCfgOut]
  · exact setupOnce_of_later hs (by simp [hph]) (by simp [hp]) (by simp [hp]) rfl ⟨rfl, rfl⟩
      (by simp [State.startFaulted, hph]) Pos.noConfusion Pos.noConfusion
  · exact hs

/-- Settles O48: only the setup's own two places issue the two events, and a run passes each once. -/
theorem setupHappensOnce : Obligations.SetupHappensOnce := by
  intro s t hi hs h
  have hph' := phase_ne_constructed_of_step hi h
  rcases step_event h with ⟨hp, hhost⟩ | hown | ⟨i, u, hr, hout, rfl⟩ | ⟨i, x, hp, hev⟩ | ⟨hp, rfl⟩
  · exact hostStep_setupOnce hs hp hhost
  · exact hown.setupOnce hi hs (hph' hown.running)
  · obtain ⟨c, hp, _⟩ := hi.runs_outside hr hout
    have hrest : s.pos ≠ .rest := by simp [hp]
    exact setupOnce_of_later hs (hi.phase_ne_constructed hrest) (by simp [hp]) (by simp [hp])
      (hr.callEvent_open _ _).trace ⟨rfl, rfl⟩ (hph' hrest) Pos.noConfusion Pos.noConfusion
  · exact hev.setupOnce hi hs hp (hph' (by simp [hp]))
  · exact setupOnce_of_later hs (hi.phase_ne_constructed (by simp [hp])) (by simp [hp]) (by simp [hp]) rfl ⟨rfl, rfl⟩
      (hph' (by simp [hp])) Pos.noConfusion Pos.noConfusion

/-- In a run every step but `DONE` is a collaborator call (R208, R209). -/
theorem step_eq_perform {s : State} (hv : s.params.valid = true) (hrun : s.running) (hdirect : s.pos ≠ .direct)
    (hdone : s.pos ≠ .done) : ∃ t, step s = s.perform t := by
  rw [step_of_valid hv]
  exact stepValid_eq_perform hrun hdirect hdone

/-- A collaborator call of a run that returns is a step, with one event on the session's handles. -/
theorem step_of_returning_call {s : State} (hv : s.params.valid = true) (hrun : s.running) (hdirect : s.pos ≠ .direct)
    (hdone : s.pos ≠ .done) (he : s.envOk = true) : ∃ t e, step s = .next t ∧ s.CallEvent t e := by
  obtain ⟨t, ht⟩ := step_eq_perform hv hrun hdirect hdone
  have hstep : step s = .next t := ht.trans (perform_of_envOk he t)
  rcases step_callEvent hstep with ⟨hp, _⟩ | ⟨e, hev⟩ | ⟨hp, _⟩
  · exact absurd hp hrun
  · exact ⟨t, e, hstep, hev⟩
  · exact absurd hp hdone

/-- Settles O49: `DONE` is no collaborator call, and any other event of a run is one that returns. -/
theorem runMakesProgress : Obligations.RunMakesProgress := by
  intro s hv hrun hdirect he
  by_cases hdone : s.pos = .done
  · exact ⟨_, step_of_done hv hdone⟩
  · obtain ⟨t, _, hstep, _⟩ := step_of_returning_call hv hrun hdirect hdone he
    exact ⟨t, hstep⟩

/-- Settles O53: the step is a collaborator call, and such a call is what the script says. -/
theorem environmentStopsAreKept : Obligations.EnvironmentStopsAreKept := by
  intro s rest hv hrun hdirect hdone
  obtain ⟨t, ht⟩ := step_eq_perform hv hrun hdirect hdone
  refine ⟨fun henv => ?_, fun henv => ?_, fun henv => ?_⟩
  all_goals rw [ht, State.perform, henv]

/-- Settles O55: the step is a collaborator call, and each of the two kinds of call takes its entry by its own rule. -/
theorem callTakesItsEntry : Obligations.CallTakesItsEntry := by
  refine fun s rest hv hrun hdirect hdone => ⟨fun henv => ?_, fun b henv => ?_⟩
  · obtain ⟨hreturned, hrest⟩ := env_of_returns henv
    obtain ⟨t, e, hstep, hev⟩ := step_of_returning_call hv hrun hdirect hdone (by simp [State.envOk, henv])
    refine ⟨t, e, hstep, hev.trace, ?_⟩
    rcases hev.env with ⟨ht, _⟩ | ⟨ht, _⟩
    · exact ht.trans hrest
    · exact ht.trans hreturned
  · obtain ⟨t, e, hstep, hev⟩ := step_of_returning_call hv hrun hdirect hdone (envOk_of_reply henv)
    refine ⟨t, e, hstep, hev.trace, ?_⟩
    rcases hev.env with ⟨ht, o, ho⟩ | ⟨ht, hx⟩
    · exact .inl ⟨ht.trans (envRest_of_reply henv), o, by rw [ho, rxByte_of_reply henv]⟩
    · exact .inr ⟨ht.trans (envReturned_of_reply henv), hx⟩

/-- Settles O37: the invariant's flags at the end of a run, in READY and in FAULTED. -/
theorem doneReturnsOutcomeOfFlags : Obligations.DoneReturnsOutcomeOfFlags := by
  intro s t hi hp h
  rw [step_of_done (step_next h).1 hp, Host.Outcome.next.injEq] at h
  subst h
  refine ⟨rfl, rfl, hi.lineOk.csLevel_eq (by rw [hp]; rfl), ?_⟩
  have hflags := hi.flagsOk
  rcases hi.ended.2 hp with hph | hph
  · rw [State.FlagsOk, hph] at hflags
    obtain ⟨hto, hfa, hout, _⟩ := hflags
    simp [hto, hfa, hout, hph]
  · simp only [State.FlagsOk, hph, hp, inFaultProcedure, Bool.false_eq_true, if_false] at hflags
    obtain ⟨_, _, hfa, ⟨c, _, _, hto⟩, hout⟩ := hflags
    cases hcl : c.isTimeout <;> simp [hto, hfa, hout, hph, hcl]

/-- A step of a run keeps the environment's duties by its script (R211). -/
theorem conforming_of_step {s t : State} (hrun : s.running) (hc : s.conforming = true) (h : step s = .next t) :
    t.conforming = true := by
  rw [State.conforming]
  rcases step_callEvent h with ⟨hp, _⟩ | ⟨e, hev⟩ | ⟨_, rfl⟩
  · exact absurd hp hrun
  · rcases hev.env with ⟨henv, _⟩ | ⟨henv, _⟩
    · exact henv ▸ conforming_envRest hc
    · exact henv ▸ conforming_envReturned hc
  · exact hc

/-- A step of a run leaves the configuration (R38). -/
theorem params_of_step {s t : State} (hrun : s.running) (h : step s = .next t) : t.params = s.params := by
  rcases step_callEvent h with ⟨hp, _⟩ | ⟨e, hev⟩ | ⟨_, rfl⟩
  · exact absurd hp hrun
  · exact hev.params
  · rfl

/-- Settles O51: every step goes on, keeps the invariant and the duties, and lowers the bound, and a session comes to
rest past CONSTRUCTED. -/
theorem runTerminates : Obligations.RunTerminates := by
  intro s hv hi hrun hc
  induction hleft : s.eventsLeft using Nat.strong_induction_on generalizing s with
  | _ left ih =>
    subst hleft
    obtain ⟨t, h⟩ := runMakesProgress s hv hrun hi.ne_direct (envOk_of_conforming hc)
    have hit := invariantIsKept s t hi h
    have hlt := eventsLeftGoDown.1 s t hi hrun h
    by_cases hrest : t.pos = .rest
    · refine ⟨1, t, by omega, runSteps_succ h 0, hrest, ?_⟩
      exact (hit.ended.1 hrest).resolve_left (phase_ne_constructed_of_step hi h hrun)
    · obtain ⟨n, u, hn, hrunSteps, hu⟩ :=
        ih _ hlt t (params_of_step hrun h ▸ hv) hit hrest (conforming_of_step hrun hc h) rfl
      exact ⟨n + 1, u, by omega, (runSteps_succ h n).trans hrunSteps, hu⟩

end Sys2Proof.Machine
end

section
/-! The frame of every command (R36), and what no decision reads (R77, R83). -/

namespace Sys2Proof.Machine

/-- No event of an exchange writes the handles, the failure flags, the clock shadow, the selector, the configuration and
what is the caller's, and each appends one event. -/
theorem ExchangeEvent.unwritten {i : Instr} {s t : State} {x : ExchangePos} (h : ExchangeEvent i s x t) :
    t.chipSelect = s.chipSelect ∧ t.busHandle = s.busHandle ∧ t.timedOut = s.timedOut ∧ t.faulted = s.faulted ∧
    t.cause = s.cause ∧ t.clkCfg = s.clkCfg ∧ t.shape = s.shape ∧ t.params = s.params ∧ t.host = s.host ∧
    t.returned = s.returned ∧ ∃ e, t.trace = s.trace ++ [e] := by
  rcases h.byte_or_close with ⟨out, p, n, m, r, y, rfl⟩ | ⟨res, _, rfl⟩
  · exact ⟨rfl, rfl, rfl, rfl, rfl, rfl, rfl, rfl, rfl, rfl, _, rfl⟩
  · obtain ⟨_, _, _, _, _, _, _, hclose⟩ := closeOf_eq i res (s.closeExchange res)
    rw [hclose]
    exact ⟨rfl, rfl, rfl, rfl, rfl, rfl, rfl, rfl, rfl, rfl, _, rfl⟩

/-- The elements that only the named commands write (R156 to R167). -/
def WritesOwn (i : Instr) (s t : State) : Prop :=
  (i ≠ .cmdIfCond → t.isV2 = s.isV2 ∧ t.negAttempts = s.negAttempts) ∧
  ((∀ arg, i ≠ .acmdOpCond arg) → t.ocrAttempts = s.ocrAttempts) ∧
  (i ≠ .cmdReadOcr → t.isHighCapacity = s.isHighCapacity) ∧
  ((∀ arg, i ≠ .acmdOpCond arg) → i ≠ .cmdReadOcr → t.outcome = s.outcome) ∧
  (∀ idx arg, i = .cmd idx arg → t.phase = s.phase)

/-- Each issuing rule writes its command's own elements only. -/
theorem writesOwn_closeOf (i : Instr) (res : ReadResult) (u : State) : WritesOwn i u (closeOf i res u) := by
  cases res with
  | timeoutToken =>
    cases i <;>
      exact ⟨fun _ => ⟨rfl, rfl⟩, fun _ => rfl, fun _ => rfl, fun _ _ => rfl, fun _ _ h => by cases h <;> rfl⟩
  | timeoutBusy =>
    cases i <;>
      exact ⟨fun _ => ⟨rfl, rfl⟩, fun _ => rfl, fun _ => rfl, fun _ _ => rfl, fun _ _ h => by cases h <;> rfl⟩
  | ok =>
    cases i with
    | cmdReset => simp only [closeOf, closeReset]; split_ifs <;> simp [WritesOwn]
    | cmdIfCond => simp only [closeOf, closeIfCond]; split_ifs <;> simp [WritesOwn]
    | cmdApp => simp [closeOf, closeApp, WritesOwn]
    | acmdOpCond arg => simp only [closeOf, closeOpCond, afterNegotiation]; split_ifs <;> simp [WritesOwn]
    | cmdReadOcr => simp only [closeOf, closeReadOcr]; split_ifs <;> simp [WritesOwn]
    | cmd idx arg => simp [closeOf, closeGeneric, WritesOwn]

/-- Each event of an exchange writes its command's own elements only. -/
theorem ExchangeEvent.writesOwn {i : Instr} {s t : State} {x : ExchangePos} (h : ExchangeEvent i s x t) :
    WritesOwn i s t := by
  rcases h.byte_or_close with ⟨out, p, n, m, r, y, rfl⟩ | ⟨res, _, rfl⟩
  · exact ⟨fun _ => ⟨rfl, rfl⟩, fun _ => rfl, fun _ => rfl, fun _ _ => rfl, fun _ _ _ => rfl⟩
  · exact writesOwn_closeOf i res (s.closeExchange res)

/-- An event inside an exchange before its end is a byte exchange, which leaves the record, the line, the frame buffer
and the result. -/
theorem ExchangeEvent.inside {i : Instr} {s t : State} {x : ExchangePos} (h : ExchangeEvent i s x t)
    (hrelease : ∀ res, x ≠ .release res) (htoken : x = .token → s.tokenCount ≠ s.params.tokenRetries) :
    t.phase = s.phase ∧ t.isV2 = s.isV2 ∧ t.negAttempts = s.negAttempts ∧ t.ocrAttempts = s.ocrAttempts ∧
    t.isHighCapacity = s.isHighCapacity ∧ t.outcome = s.outcome ∧ t.result = s.result ∧ t.csLevel = s.csLevel ∧
    t.f = s.f ∧ t.env = s.envRest ∧ t.rxCount = s.rxCount + 1 := by
  rcases h.byte_or_close with ⟨out, p, n, m, r, y, rfl⟩ | ⟨res, hx | ⟨hx, hspent, _⟩, rfl⟩
  · exact ⟨rfl, rfl, rfl, rfl, rfl, rfl, rfl, rfl, rfl, rfl, rfl⟩
  · exact absurd hx (hrelease res)
  · exact absurd hspent (htoken hx)

/-- A frame byte leaves the response and, before the sixth, the count of the token search (R101). -/
theorem frameByteSent_leaves (s : State) (i : Instr) (k : Fin 6) :
    (s.frameByteSent i k).r = s.r ∧ (s.frameByteSent i k).busyTries = s.busyTries ∧
    (k ≠ 5 → (s.frameByteSent i k).tokenTries = s.tokenTries) := by
  unfold State.frameByteSent
  split
  · exact ⟨rfl, rfl, fun _ => rfl⟩
  · exact ⟨rfl, rfl, fun hk => absurd (Fin.ext (by omega)) hk⟩

/-- The decision on a result leaves the two buffers and the counters of the read (R127). -/
theorem close_leaves (s : State) (i : Instr) (res : ReadResult) :
    (closeOf i res (s.closeExchange res)).r = s.r ∧ (closeOf i res (s.closeExchange res)).f = s.f ∧
    (closeOf i res (s.closeExchange res)).tokenTries = s.tokenTries ∧
    (closeOf i res (s.closeExchange res)).busyTries = s.busyTries ∧
    (closeOf i res (s.closeExchange res)).env = s.envReturned ∧
    (closeOf i res (s.closeExchange res)).rxCount = s.rxCount := by
  obtain ⟨_, _, _, _, _, _, _, hclose⟩ := closeOf_eq i res (s.closeExchange res)
  rw [hclose]
  exact ⟨rfl, rfl, rfl, rfl, rfl, rfl⟩

/-- A token timeout writes the phase and the result at most: the flags are the Faulted procedure's (R169). -/
theorem tokenTimeout_leaves (s : State) (i : Instr) :
    (closeOf i .timeoutToken (s.closeExchange .timeoutToken)).isV2 = s.isV2 ∧
    (closeOf i .timeoutToken (s.closeExchange .timeoutToken)).negAttempts = s.negAttempts ∧
    (closeOf i .timeoutToken (s.closeExchange .timeoutToken)).ocrAttempts = s.ocrAttempts ∧
    (closeOf i .timeoutToken (s.closeExchange .timeoutToken)).isHighCapacity = s.isHighCapacity ∧
    (closeOf i .timeoutToken (s.closeExchange .timeoutToken)).outcome = s.outcome := by
  cases i <;> exact ⟨rfl, rfl, rfl, rfl, rfl⟩

/-- Settles O38: the opening is one update of the state; an event inside an exchange is split by its place. -/
theorem commandFrame : Obligations.CommandFrame := by
  intro i s t h
  rcases exec_next h with ⟨hout, rfl⟩ | ⟨j, x, hp, hev⟩
  · exact ⟨rfl, rfl, rfl, rfl, rfl, rfl, rfl, rfl, rfl, rfl, ⟨_, rfl⟩, fun _ => ⟨rfl, rfl⟩, fun _ => rfl, fun _ => rfl,
      fun _ _ => rfl, fun _ _ _ => rfl, fun j hj => absurd hj (hout j _), fun _ => rfl,
      fun _ => ⟨rfl, rfl, rfl, rfl, rfl, rfl, rfl, rfl, rfl, rfl, rfl, rfl⟩, fun j x hj => absurd hj (hout j x),
      fun j k hj => absurd hj (hout j _), fun j k hj => absurd hj (hout j _), fun j hj => absurd hj (hout j _),
      fun j c hj => absurd hj (hout j _), fun j hj => absurd hj (hout j _), fun j res hj => absurd hj (hout j _)⟩
  · obtain ⟨hcs, hbus, hto, hfa, hcause, hclk, hshape, hparams, hhost, hret, htrace⟩ := hev.unwritten
    obtain ⟨hversion, hocr, hcap, houtcome, hphase⟩ := hev.writesOwn
    have hfirst := hev.firstCmdPending_eq
    have hplace : ∀ {k y}, s.pos = .exch k y → x = y := fun hq => by
      rw [hp] at hq
      exact (Pos.exch.inj hq).2
    refine ⟨hcs, hbus, hto, hfa, hcause, hclk, hshape, hparams, hhost, hret, htrace, hversion, hocr, hcap, houtcome,
      hphase, fun k hk => ?_, fun hne => ?_, fun hout => absurd hp (hout j x), fun k y hk hr ht => ?_, fun k l hk => ?_,
      fun k l hk => ?_, fun k hk => ?_, fun k c hk => ?_, fun k hk hspent => ?_, fun k res hk => ?_⟩
    · rw [hfirst, if_pos (hplace hk)]
    · rw [hfirst, if_neg fun hx => hne j (by rw [hp, hx])]
    · obtain rfl := hplace hk
      exact hev.inside hr ht
    · obtain rfl := hplace hk
      cases hev with
      | frame _ => exact frameByteSent_leaves s i l
    · obtain rfl := hplace hk
      cases hev with
      | extra _ => exact ⟨rfl, rfl⟩
    · obtain rfl := hplace hk
      cases hev with
      | drain _ => exact ⟨rfl, rfl⟩
      | drainSpent _ => exact ⟨rfl, rfl⟩
    · obtain rfl := hplace hk
      cases hev with
      | dummy _ => exact ⟨rfl, rfl, rfl⟩
    · obtain rfl := hplace hk
      cases hev with
      | token hleft => exact absurd hspent hleft
      | tokenSpent _ =>
        obtain ⟨hv, hn, ho, hc, hout⟩ := tokenTimeout_leaves s i
        exact ⟨hv, hn, ho, hc, hout, close_leaves s i .timeoutToken⟩
    · obtain rfl := hplace hk
      cases hev with
      | release _ => exact close_leaves s i res

/-- The same state with other bytes behind `r[1]`. -/
def State.withLaterBytes (s : State) (a b c : Option Byte) : State :=
  { s with r := { s.r with r2 := a, r3 := b, r4 := c } }

/-- An issuing rule decides on `r[0]` and `r[1]` at most (R77, R83). -/
theorem closeOf_withLaterBytes (i : Instr) (res : ReadResult) (u : State) (a b c : Option Byte) :
    closeOf i res (u.withLaterBytes a b c) = (closeOf i res u).withLaterBytes a b c := by
  have hstatus : (u.withLaterBytes a b c).status = u.status := rfl
  have hsecond : (u.withLaterBytes a b c).second = u.second := rfl
  have hversion : (u.withLaterBytes a b c).version = u.version := rfl
  have hparams : (u.withLaterBytes a b c).params = u.params := rfl
  cases res with
  | timeoutToken => cases i <;> rfl
  | timeoutBusy => cases i <;> rfl
  | ok =>
    cases i with
    | cmdReset => simp only [closeOf, closeReset, hstatus]; split_ifs <;> rfl
    | cmdIfCond => simp only [closeOf, closeIfCond, hstatus, hparams]; split_ifs <;> rfl
    | cmdApp => rfl
    | acmdOpCond arg =>
      simp only [closeOf, closeOpCond, afterNegotiation, hstatus, hsecond, hversion, hparams]; split_ifs <;> rfl
    | cmdReadOcr => simp only [closeOf, closeReadOcr, hstatus, hsecond, hparams]; split_ifs <;> rfl
    | cmd idx arg => rfl

/-- Settles O44: the step is the release, and the issuing rule does the same whatever the later bytes are. -/
theorem laterBytesDecideNothing : Obligations.LaterBytesDecideNothing := by
  intro i s t res a b c hp h
  rw [exec_of_release hp] at h
  obtain ⟨he, rfl⟩ := (perform_eq_next_iff _ _ _).1 h
  have hp' : (s.withLaterBytes a b c).pos = .exch i (.release res) := hp
  have he' : (s.withLaterBytes a b c).envOk = true := he
  exact ((exec_of_release hp' i).trans (perform_of_envOk he' _)).trans
    (congrArg Host.Outcome.next (closeOf_withLaterBytes i res (s.closeExchange res) a b c))

end Sys2Proof.Machine
end

section
/-! The step at each place outside an exchange, and the decision at each release, as one equation each. -/

namespace Sys2Proof.Machine

/-- At rest a step serves the caller (R200 to R206). -/
theorem step_of_rest {s : State} (hv : s.params.valid = true) (hp : s.pos = .rest) : step s = hostStep s := by
  rw [step_of_valid hv, stepValid, hp]

/-- At a place of the sequence a step is the command issued there, from the state its loop head has written (R79). -/
theorem step_of_issue_run {s u : State} {c : SeqPos} {i : Instr} (hv : s.params.valid = true) (hp : s.pos = .command c)
    (hs : issue c s = .run i u) : step s = exec i u := by
  rw [step_of_valid hv, stepValid, hp]
  dsimp only
  rw [hs]

/-- At a loop head whose budget is spent a step enters the Faulted procedure and issues its first event (R160, R166). -/
theorem step_of_issue_stop {s : State} {c : SeqPos} {cause : Cause} (hv : s.params.valid = true)
    (hp : s.pos = .command c) (hs : issue c s = .stop cause) :
    step s = s.perform ((s.raise cause).faultReleased cause) := by
  rw [step_of_valid hv, stepValid, hp]
  dsimp only
  rw [hs]
  exact perform_congr rfl _

/-- A written counter reads as its value (R160). -/
theorem negCount_of_some {s : State} {n : Nat} (h : s.negAttempts = some n) : s.negCount = n := by
  simp [State.negCount, h]

/-- A written counter reads as its value (R166). -/
theorem ocrCount_of_some {s : State} {n : Nat} (h : s.ocrAttempts = some n) : s.ocrCount = n := by
  simp [State.ocrCount, h]

/-- Settles O9: the frame in the buffer is decoded under the session's own configuration. -/
theorem stepRunsDecodedFrame : Obligations.StepRunsDecodedFrame := by
  intro s f i hv hp hf hdecode
  have hdirect : directInstr s = .ok i := by rw [directInstr, hf]; exact hdecode
  rw [step_of_valid hv, stepValid, hp]
  dsimp only
  rw [hdirect]

/-- Settles O10. -/
theorem stepContinuesCommand : Obligations.StepContinuesCommand := fun _ _ _ hv hp => step_of_exch hv hp

/-- Settles O11: `issue` at each place, with the written counter and the written version flag. -/
theorem sequencerIssuesItsCommands : Obligations.SequencerIssuesItsCommands := by
  refine fun s hv => ⟨fun hp => step_of_issue_run hv hp rfl, fun hp => step_of_issue_run hv hp rfl,
    fun n hp hn hne => ?_, fun hp hv2 => ?_, fun hp hv2 => ?_, fun n hp hn hne => ?_⟩
  · exact step_of_issue_run hv hp (by rw [issue, negCount_of_some hn, if_neg hne])
  · exact step_of_issue_run hv hp (by rw [issue, opCondArg, version_of_some hv2, if_pos rfl])
  · exact step_of_issue_run hv hp (by rw [issue, opCondArg, version_of_some hv2, if_neg Bool.false_ne_true])
  · exact step_of_issue_run hv hp (by rw [issue, ocrCount_of_some hn, if_neg hne])

/-- Settles O12: a counter at its budget makes the loop head raise. -/
theorem spentBudgetRaises : Obligations.SpentBudgetRaises := by
  refine fun s hv he => ⟨fun hp hn => ?_, fun hp hn => ?_⟩
  · have hs : issue .attempt s = .stop .tNegBudget := by rw [issue, negCount_of_some hn, if_pos rfl]
    exact ⟨_, (step_of_issue_stop hv hp hs).trans (perform_of_envOk he _), rfl, rfl, rfl, rfl⟩
  · have hs : issue .register s = .stop .tOcrBudget := by rw [issue, ocrCount_of_some hn, if_pos rfl]
    exact ⟨_, (step_of_issue_stop hv hp hs).trans (perform_of_envOk he _), rfl, rfl, rfl, rfl⟩

/-- The start operation at rest (R201 to R204). -/
theorem step_of_callInit {s : State} {rest : List HostOp} (hv : s.params.valid = true) (hp : s.pos = .rest)
    (hh : s.host = .callInit :: rest) : step s = startStep s rest := by
  rw [step_of_rest hv hp, hostStep, hh]

/-- Settles O15: the step is `newSession`, whose fields are construction's. -/
theorem constructGivesFreshSession : Obligations.ConstructGivesFreshSession := by
  intro s cs bus rest hv hp hh
  have hstep : step s = .next (s.newSession cs bus rest) := by rw [step_of_rest hv hp, hostStep, hh]
  exact ⟨_, hstep, rfl, rfl, rfl, rfl, rfl, rfl, rfl, rfl, rfl, rfl, rfl, rfl, rfl, rfl, rfl, rfl, rfl, rfl, rfl, rfl,
    rfl, rfl, rfl⟩

/-- Settles O16. -/
theorem startBeginsRun : Obligations.StartBeginsRun := by
  intro s rest hv hp hh hph
  rw [step_of_callInit hv hp hh, startStep, hph]
  rfl

/-- Settles O17: `START` leads to `DONE`, and `DONE` to rest. -/
theorem startOnFaultedSessionReturns : Obligations.StartOnFaultedSessionReturns := by
  intro s rest hv hp hh hph
  have hstart : step s = .next (s.startFaulted rest) := by rw [step_of_callInit hv hp hh, startStep, hph]
  have hdone : step (s.startFaulted rest) = .next (s.startFaulted rest).finishRun := step_of_done hv rfl
  rw [runSteps_succ hstart, runSteps_succ hdone, runSteps]
  simp [State.startFaulted, State.finishRun, State.log, State.goTo, ← hp]

/-- Settles O18: the start operation is split by the phase. -/
theorem startElsewhereIsRefused : Obligations.StartElsewhereIsRefused := by
  intro s rest hv hp hh
  rw [step_of_callInit hv hp hh]
  refine ⟨fun hph => by rw [startStep, hph], ?_⟩
  rintro (hph | hph | hph | hph) <;> rw [startStep, hph]

/-- Settles O19: the accessor is split by whether its flag is written. -/
theorem accessorsReadFlags : Obligations.AccessorsReadFlags := by
  intro s a rest hv hp hh
  have hstep : step s = accessorStep s a rest := by rw [step_of_rest hv hp, hostStep, hh]
  exact ⟨fun v hflag => by rw [hstep, accessorStep, hflag], fun hflag => by rw [hstep, accessorStep, hflag]⟩

/-- Settles O22: the opening is the one event of a command outside an exchange. -/
theorem everyCommandOpensItsExchange : Obligations.EveryCommandOpensItsExchange :=
  fun i _ he hout => (exec_of_outside hout i).trans (perform_of_envOk he _)

/-- R158: a probe status with the idle bit clear is a protocol fault. -/
theorem closeIfCond_of_not_idle {u : State} (h : u.status &&& 0x01 = 0) :
    closeIfCond .ok u = u.raise .fProbeNotIdle := by
  simp [closeIfCond, (stIdle_eq_false_iff _).2 h]

/-- R159: with the idle bit set the illegal-command bit alone decides the version flag. -/
theorem closeIfCond_of_idle {u : State} (h : u.status &&& 0x01 ≠ 0) :
    closeIfCond .ok u =
      { u with
        isV2 := if u.status &&& u.params.maskIllegal = 0 then some true else u.isV2
        phase := .negotiate
        negAttempts := some 0
        pos := .command .attempt } := by
  have hidle : stIdle u.status = true := (anyBit_eq_true_iff _ _).2 h
  have hillegal : stIllegal u.params u.status = true ↔ ¬u.status &&& u.params.maskIllegal = 0 := anyBit_eq_true_iff _ _
  simp only [closeIfCond, hidle, if_true, hillegal, ite_not]

/-- Settles O29. -/
theorem probeDetectsVersion : Obligations.ProbeDetectsVersion := by
  intro s b he hp hr hb
  obtain rfl : s.status = b := status_of_some hr
  rw [exec_of_release hp, perform_of_envOk he, closeOf, closeIfCond_of_idle (u := s.closeExchange .ok) hb]
  rfl

/-- Settles O30. -/
theorem probeNotIdleFaults : Obligations.ProbeNotIdleFaults := by
  intro s b he hp hr hb
  obtain rfl : s.status = b := status_of_some hr
  rw [exec_of_release hp, perform_of_envOk he, closeOf, closeIfCond_of_not_idle (u := s.closeExchange .ok) hb]
  rfl

/-- Settles O31: the release, and an issuing rule without a test. -/
theorem appCommandStatusIsNotTested : Obligations.AppCommandStatusIsNotTested :=
  fun _ he hp => (exec_of_release hp _).trans (perform_of_envOk he _)

/-- R166: a register read that is not ready leads to another attempt. -/
theorem closeReadOcr_of_not_ready {u : State} (h : readyResp u.params u.status u.second = false) :
    closeReadOcr .ok u = u.goTo (.command .register) := by
  rw [closeReadOcr, h, if_neg Bool.false_ne_true]

/-- Settles O33: the register read's response is split along the readiness condition. -/
theorem registerReadDecides : Obligations.RegisterReadDecides := by
  intro s b0 b1 he hp h0 h1
  obtain rfl : s.status = b0 := status_of_some h0
  obtain rfl : s.second = b1 := second_of_some h1
  rw [exec_of_release hp, perform_of_envOk he, closeOf]
  split_ifs with hready
  · rw [closeReadOcr_of_ready (s := s.closeExchange .ok) ((readinessCondition _ _ _).2 hready)]
    rfl
  · rw [closeReadOcr_of_not_ready (u := s.closeExchange .ok)
      (Bool.eq_false_iff.2 (mt (readinessCondition _ _ _).1 hready))]
    rfl

/-- Settles O34: the release, and no decision. -/
theorem genericExchangeReturnsResult : Obligations.GenericExchangeReturnsResult :=
  fun _ _ _ _ he hp => (exec_of_release hp _).trans (perform_of_envOk he _)

/-- R169, R32: the end of the Faulted procedure, where `timed_out` was clear. -/
theorem faultFinished_eq {s : State} {c : Cause} (hto : s.timedOut = some false) :
    s.faultFinished c =
      { s.exchangeByte s.params.fill with
        faulted := some true
        timedOut := some c.isTimeout
        cause := some c
        outcome := if c.isTimeout then .timedOut else .faulted
        pos := .done } := by
  cases hcl : c.isTimeout <;> simp [State.faultFinished, hcl, hto, hasTimedOut_of_some hto]

/-- The exchange of one scripted byte (R51). -/
theorem exchangeByte_of_reply {s : State} {b : Byte} {rest : List EnvAct} (h : s.env = .reply b :: rest) (out : Byte) :
    s.exchangeByte out =
      { s with trace := s.trace ++ [.xchg s.busHandle out b], env := rest, rxCount := s.rxCount + 1 } := by
  rw [State.exchangeByte, rxByte_of_reply h, envRest_of_reply h]

/-- Settles O36: the three events of the Faulted procedure in a row. -/
theorem faultProcedureRuns : Obligations.FaultProcedureRuns := by
  intro s c b rest hv hp henv hto
  have henv' : (s.faultReleased c).env = .reply b :: rest := (envReturned_of_reply henv).trans henv
  rw [runSteps_of_faultRelease hv hp (envOk_of_reply henv) (envOk_of_reply henv'),
    faultFinished_eq (s := s.faultReleased c) hto, exchangeByte_of_reply henv']
  simp [State.finishRun, State.log, State.goTo, State.faultReleased, State.driveCs]

end Sys2Proof.Machine
end

section
/-! Runs of byte exchanges under a script: the loops of the power-up, the token search and the busy drain, the frame,
and the reads of the shapes (R101, R121 to R125, R154). -/

namespace Sys2Proof.Machine

/-- The state after the exchanges `es`, which have taken their bytes off the script. -/
def State.exchanged (s : State) (es : List Event) (rest : List EnvAct) : State :=
  { s with trace := s.trace ++ es, env := rest, rxCount := s.rxCount + es.length }

theorem exchanged_exchanged (s : State) (es fs : List Event) (e rest : List EnvAct) :
    (s.exchanged es e).exchanged fs rest = s.exchanged (es ++ fs) rest := by
  simp [State.exchanged, Nat.add_assoc]

theorem exchanged_nil {s : State} {rest : List EnvAct} (h : s.env = rest) : s.exchanged [] rest = s := by
  subst h
  simp [State.exchanged]

theorem exchangeByte_eq_exchanged {s : State} {b : Byte} {rest : List EnvAct} (h : s.env = .reply b :: rest)
    (out : Byte) : s.exchangeByte out = s.exchanged [Event.xchg s.busHandle out b] rest :=
  exchangeByte_of_reply h out

/-- A fill byte is one of `fillReads`' exchanges (R126). -/
theorem fillByte_eq_exchanged {s : State} {b : Byte} {rest : List EnvAct} (h : s.env = .reply b :: rest) :
    s.exchangeByte s.params.fill = s.exchanged (fillReads s [b]) rest :=
  exchangeByte_of_reply h s.params.fill

theorem fillReads_append (s : State) (bs cs : List Byte) : fillReads s (bs ++ cs) = fillReads s bs ++ fillReads s cs :=
  List.map_append

@[simp] theorem fillReads_length (s : State) (bs : List Byte) : (fillReads s bs).length = bs.length :=
  List.length_map _

theorem runSteps_zero (s : State) : runSteps 0 s = .next s := rfl

/-- A step, then the steps that follow. -/
theorem runSteps_cons {n : Nat} {s t : State} {o : Host.Outcome State Fault Refusal} (h : step s = .next t)
    (ho : runSteps n t = o) : runSteps (n + 1) s = o :=
  (runSteps_succ h n).trans ho

/-- Steps that reach a state, then the steps that follow. -/
theorem runSteps_trans {m n : Nat} {s t : State} {o : Host.Outcome State Fault Refusal} (h : runSteps m s = .next t)
    (ho : runSteps n t = o) : runSteps (m + n) s = o :=
  (runSteps_add h n).trans ho

/-- A loop that exchanges one fill byte in each turn: `mark k` is what `k` turns have written besides. -/
theorem runSteps_fillLoop {s : State} {mark : Nat → State → State} {goesOn : Byte → Prop} {budget : Nat}
    {rest : List EnvAct}
    (hturn : ∀ k b pre env, k < budget → goesOn b →
      step (mark k (s.exchanged (fillReads s pre) (.reply b :: env))) =
        .next (mark (k + 1) (s.exchanged (fillReads s (pre ++ [b])) env)))
    (bs : List Byte) (hbs : ∀ b ∈ bs, goesOn b) (pre : List Byte) (hlen : pre.length + bs.length ≤ budget) :
    runSteps bs.length (mark pre.length (s.exchanged (fillReads s pre) (bs.map EnvAct.reply ++ rest))) =
      .next (mark (pre.length + bs.length) (s.exchanged (fillReads s (pre ++ bs)) rest)) := by
  induction bs generalizing pre with
  | nil => simp [runSteps]
  | cons b bs ih =>
    obtain ⟨hb, hrest⟩ := List.forall_mem_cons.1 hbs
    rw [List.length_cons] at hlen
    have hstep := hturn pre.length b pre (bs.map EnvAct.reply ++ rest) (by omega) hb
    have hnext := ih hrest (pre ++ [b]) (by simp only [List.length_append, List.length_singleton]; omega)
    rw [List.length_cons, List.map_cons, List.cons_append, runSteps_succ hstep]
    simp only [List.length_append, List.length_singleton, List.append_assoc, List.singleton_append] at hnext
    rw [hnext, Nat.add_assoc, Nat.add_comm 1]

/-- The same, from the loop's first turn. -/
theorem runSteps_fillLoop_start {s : State} {mark : Nat → State → State} {goesOn : Byte → Prop} {budget : Nat}
    {bs : List Byte} {rest : List EnvAct}
    (hturn : ∀ k b pre env, k < budget → goesOn b →
      step (mark k (s.exchanged (fillReads s pre) (.reply b :: env))) =
        .next (mark (k + 1) (s.exchanged (fillReads s (pre ++ [b])) env)))
    (hbs : ∀ b ∈ bs, goesOn b) (hlen : bs.length ≤ budget) (henv : s.env = bs.map EnvAct.reply ++ rest)
    (hstart : mark 0 s = s) :
    runSteps bs.length s = .next (mark bs.length (s.exchanged (fillReads s bs) rest)) := by
  have h := runSteps_fillLoop (rest := rest) hturn bs hbs [] (by simpa using hlen)
  simpa [fillReads, exchanged_nil henv, hstart] using h

/-! The power-up clocking. -/

/-- A turn of the idle loop with chip-select released (R154). -/
theorem step_of_idleHigh {u : State} {k : Nat} {b : Byte} {env : List EnvAct} (hv : u.params.valid = true)
    (hp : u.pos = .idleHigh k) (hk : k < u.params.nIdleHigh) (henv : u.env = .reply b :: env) :
    step u = .next ((u.exchanged (fillReads u [b]) env).goTo (.idleHigh (k + 1))) := by
  rw [step_of_valid hv, stepValid, hp]
  dsimp only
  rw [idleHighStep, if_pos hk, perform_of_envOk (envOk_of_reply henv), fillByte_eq_exchanged henv]

/-- A turn of the idle loop with chip-select asserted (R154). -/
theorem step_of_idleLow {u : State} {k : Nat} {b : Byte} {env : List EnvAct} (hv : u.params.valid = true)
    (hp : u.pos = .idleLow k) (hk : k < u.params.nIdleLow) (henv : u.env = .reply b :: env) :
    step u = .next ((u.exchanged (fillReads u [b]) env).goTo (.idleLow (k + 1))) := by
  rw [step_of_valid hv, stepValid, hp]
  dsimp only
  rw [idleLowStep, if_pos hk, perform_of_envOk (envOk_of_reply henv), fillByte_eq_exchanged henv]

/-- R154: the idle bytes with chip-select released. -/
theorem runSteps_idleHigh {s : State} {bs : List Byte} {rest : List EnvAct} (hv : s.params.valid = true)
    (hp : s.pos = .idleHigh 0) (hlen : bs.length = s.params.nIdleHigh) (henv : s.env = bs.map EnvAct.reply ++ rest) :
    runSteps bs.length s = .next ((s.exchanged (fillReads s bs) rest).goTo (.idleHigh bs.length)) := by
  refine runSteps_fillLoop_start (mark := fun k u => u.goTo (.idleHigh k)) (goesOn := fun _ => True)
    (fun k b pre env hk _ => ?_) (fun _ _ => trivial) hlen.le henv (by rw [State.goTo, ← hp])
  rw [fillReads_append, ← exchanged_exchanged s _ _ (.reply b :: env)]
  exact step_of_idleHigh (u := (s.exchanged _ (.reply b :: env)).goTo _) hv rfl hk rfl

/-- R154: the idle bytes with chip-select asserted. -/
theorem runSteps_idleLow {s : State} {bs : List Byte} {rest : List EnvAct} (hv : s.params.valid = true)
    (hp : s.pos = .idleLow 0) (hlen : bs.length = s.params.nIdleLow) (henv : s.env = bs.map EnvAct.reply ++ rest) :
    runSteps bs.length s = .next ((s.exchanged (fillReads s bs) rest).goTo (.idleLow bs.length)) := by
  refine runSteps_fillLoop_start (mark := fun k u => u.goTo (.idleLow k)) (goesOn := fun _ => True)
    (fun k b pre env hk _ => ?_) (fun _ _ => trivial) hlen.le henv (by rw [State.goTo, ← hp])
  rw [fillReads_append, ← exchanged_exchanged s _ _ (.reply b :: env)]
  exact step_of_idleLow (u := (s.exchanged _ (.reply b :: env)).goTo _) hv rfl hk rfl

/-- A script of received bytes lets a call return, and a call that receives none leaves it. -/
theorem replies_return {s : State} (h : s.env.all isReply = true) : s.envOk = true ∧ s.envReturned = s.env := by
  unfold State.envOk State.envReturned
  cases henv : s.env with
  | nil => simp
  | cons e rest => cases e <;> simp_all [isReply]

theorem all_isReply_append {bs : List Byte} {rest : List EnvAct} (h : rest.all isReply = true) :
    (bs.map EnvAct.reply ++ rest).all isReply = true := by
  rw [List.all_append, h, Bool.and_true, List.all_map]
  exact List.all_eq_true.2 fun _ _ => rfl

/-- The state of a run at a place of the setup, after its events `es`, of which `n` are exchanges (R153 to R155). -/
def State.setupTo (s : State) (es : List Event) (l : CsLevel) (c : ClkCfg) (e : List EnvAct) (n : Nat) (q : Pos) :
    State :=
  { s with trace := s.trace ++ es, csLevel := l, clkCfg := c, env := e, rxCount := s.rxCount + n, pos := q }

section

variable {s : State} {es : List Event} {l : CsLevel} {c : ClkCfg} {e : List EnvAct} {n : Nat}

/-- A `CS` under a script of received bytes, which it leaves. -/
theorem perform_driveCs_setupTo (he : e.all isReply = true) (l' : CsLevel) (p q : Pos) :
    (s.setupTo es l c e n p).perform (((s.setupTo es l c e n p).driveCs l').goTo q) =
      .next (s.setupTo (es ++ [Event.cs s.chipSelect l']) l' c e n q) := by
  obtain ⟨hok, hret⟩ := replies_return (s := s.setupTo es l c e n p) he
  rw [perform_of_envOk hok, State.driveCs, hret]
  simp [State.setupTo, State.goTo]

/-- R153: `CFG_CLK`. -/
theorem step_of_cfgClk (hv : s.params.valid = true) (hp : s.pos = .cfgClk) (h : s.env.all isReply = true) :
    step s = .next (s.setupTo [Event.cfgClk s.busHandle s.params.handshakeClock] s.csLevel
      (.rate s.params.handshakeClock) s.env 0 .cfgOut) := by
  obtain ⟨he, hret⟩ := replies_return h
  rw [step_of_valid hv, stepValid, hp]
  dsimp only
  rw [cfgClkStep, perform_of_envOk he, State.configureClock, hret]
  rfl

/-- R153: `CFG_OUT`. -/
theorem step_of_cfgOut (hv : s.params.valid = true) (he : e.all isReply = true) :
    step (s.setupTo es l c e n .cfgOut) = .next (s.setupTo (es ++ [Event.cfgOut s.chipSelect]) l c e n .csFirst) := by
  obtain ⟨hok, hret⟩ := replies_return (s := s.setupTo es l c e n .cfgOut) he
  have hstep : step (s.setupTo es l c e n .cfgOut) = cfgOutStep (s.setupTo es l c e n .cfgOut) := step_of_valid hv
  rw [hstep, cfgOutStep, perform_of_envOk hok, State.configureLine, hret]
  simp [State.setupTo, State.goTo]

/-- R153: the first `CS(HIGH)`. -/
theorem step_of_csFirst (hv : s.params.valid = true) (he : e.all isReply = true) :
    step (s.setupTo es l c e n .csFirst) =
      .next (s.setupTo (es ++ [Event.cs s.chipSelect .high]) .high c e n (.idleHigh 0)) := by
  have hstep : step (s.setupTo es l c e n .csFirst) = csFirstStep (s.setupTo es l c e n .csFirst) := step_of_valid hv
  rw [hstep, csFirstStep, perform_driveCs_setupTo he]

/-- R154: the idle bytes with chip-select released. -/
theorem runSteps_setup_idleHigh {bs : List Byte} (hv : s.params.valid = true) (hlen : bs.length = s.params.nIdleHigh) :
    runSteps bs.length (s.setupTo es l c (bs.map EnvAct.reply ++ e) n (.idleHigh 0)) =
      .next (s.setupTo (es ++ fillReads s bs) l c e (n + bs.length) (.idleHigh bs.length)) := by
  rw [runSteps_idleHigh (s := s.setupTo es l c (bs.map EnvAct.reply ++ e) n (.idleHigh 0)) hv rfl hlen rfl]
  simp [State.setupTo, State.exchanged, State.goTo, fillReads, Nat.add_assoc]

/-- R154: chip-select is asserted once these bytes have been sent. -/
theorem step_of_idleHigh_done {k : Nat} (hv : s.params.valid = true) (hk : k = s.params.nIdleHigh)
    (he : e.all isReply = true) :
    step (s.setupTo es l c e n (.idleHigh k)) =
      .next (s.setupTo (es ++ [Event.cs s.chipSelect .low]) .low c e n (.idleLow 0)) := by
  have hstep : step (s.setupTo es l c e n (.idleHigh k)) = idleHighStep (s.setupTo es l c e n (.idleHigh k)) k :=
    step_of_valid hv
  have hstop : ¬k < (s.setupTo es l c e n (.idleHigh k)).params.nIdleHigh := hk.not_lt
  rw [hstep, idleHighStep, if_neg hstop, perform_driveCs_setupTo he]

/-- R154: the idle bytes with chip-select asserted. -/
theorem runSteps_setup_idleLow {bs : List Byte} (hv : s.params.valid = true) (hlen : bs.length = s.params.nIdleLow) :
    runSteps bs.length (s.setupTo es l c (bs.map EnvAct.reply ++ e) n (.idleLow 0)) =
      .next (s.setupTo (es ++ fillReads s bs) l c e (n + bs.length) (.idleLow bs.length)) := by
  rw [runSteps_idleLow (s := s.setupTo es l c (bs.map EnvAct.reply ++ e) n (.idleLow 0)) hv rfl hlen rfl]
  simp [State.setupTo, State.exchanged, State.goTo, fillReads, Nat.add_assoc]

/-- R155: chip-select is released once these bytes have been sent. -/
theorem step_of_idleLow_done {k : Nat} (hv : s.params.valid = true) (hk : k = s.params.nIdleLow)
    (he : e.all isReply = true) :
    step (s.setupTo es l c e n (.idleLow k)) =
      .next (s.setupTo (es ++ [Event.cs s.chipSelect .high]) .high c e n (.command .reset)) := by
  have hstep : step (s.setupTo es l c e n (.idleLow k)) = idleLowStep (s.setupTo es l c e n (.idleLow k)) k :=
    step_of_valid hv
  have hstop : ¬k < (s.setupTo es l c e n (.idleLow k)).params.nIdleLow := hk.not_lt
  rw [hstep, idleLowStep, if_neg hstop, perform_driveCs_setupTo he]

end

/-- The events of the setup and the power-up clocking (R153 to R155). -/
def powerUpEvents (s : State) (hi lo : List Byte) : List Event :=
  [Event.cfgClk s.busHandle s.params.handshakeClock, Event.cfgOut s.chipSelect, Event.cs s.chipSelect .high] ++
    fillReads s hi ++ [Event.cs s.chipSelect .low] ++ fillReads s lo ++ [Event.cs s.chipSelect .high]

/-- The setup and the power-up clocking, from the run's first event to the place of the reset command. -/
theorem runSteps_powerUp {s : State} {hi lo : List Byte} {rest : List EnvAct} (hv : s.params.valid = true)
    (hp : s.pos = .cfgClk) (hhi : hi.length = s.params.nIdleHigh) (hlo : lo.length = s.params.nIdleLow)
    (henv : s.env = (hi ++ lo).map EnvAct.reply ++ rest) (hrest : rest.all isReply = true) :
    runSteps (5 + s.params.nIdleHigh + s.params.nIdleLow) s =
      .next (s.setupTo (powerUpEvents s hi lo) .high (.rate s.params.handshakeClock) rest (hi.length + lo.length)
        (.command .reset)) := by
  have hlorest : (lo.map EnvAct.reply ++ rest).all isReply = true := all_isReply_append hrest
  have henv' : s.env = hi.map EnvAct.reply ++ (lo.map EnvAct.reply ++ rest) := by simp [henv]
  have hall : s.env.all isReply = true := henv' ▸ all_isReply_append hlorest
  rw [show 5 + s.params.nIdleHigh + s.params.nIdleLow = hi.length + (lo.length + (0 + 1) + 1) + 1 + 1 + 1 by omega]
  refine runSteps_cons (step_of_cfgClk hv hp hall) (runSteps_cons (step_of_cfgOut hv hall)
    (runSteps_cons (step_of_csFirst hv hall) ?_))
  rw [henv']
  refine runSteps_trans (runSteps_setup_idleHigh hv hhi) (runSteps_cons (step_of_idleHigh_done hv hhi hlorest)
    (runSteps_trans (runSteps_setup_idleLow hv hlo) (runSteps_cons (step_of_idleLow_done hv hlo hrest) ?_)))
  simp [runSteps, powerUpEvents]

/-- Settles O21. -/
theorem powerUpSequence : Obligations.PowerUpSequence := by
  intro s hi lo rest hv hp hhi hlo henv hrest
  refine ⟨_, runSteps_powerUp hv hp hhi hlo henv hrest, rfl, ?_, rfl, rfl, rfl, rfl, rfl, rfl, rfl⟩
  simp [State.setupTo, powerUpEvents]

/-! The frame. -/

/-- The byte of the frame buffer that is sent next (R101). -/
theorem frameByte_of_some {s : State} {f : Frame} (hf : s.f = some f) (k : Fin 6) : s.frameByte k = Frame.byte f k := by
  rw [State.frameByte, hf]

/-- A frame byte before the sixth (R101). -/
theorem step_of_frame {s : State} {i : Instr} {f : Frame} {k l : Fin 6} {b : Byte} {rest : List EnvAct}
    (hv : s.params.valid = true) (hp : s.pos = .exch i (.frame k)) (hf : s.f = some f) (hl : l.val = k.val + 1)
    (henv : s.env = .reply b :: rest) :
    step s = .next ((s.exchanged [Event.xchg s.busHandle (Frame.byte f k) b] rest).goTo (.exch i (.frame l))) := by
  have hk : k.val + 1 < 6 := hl ▸ l.isLt
  obtain rfl : ⟨k.val + 1, hk⟩ = l := Fin.ext hl.symm
  rw [step_of_exch hv hp, exec_eq, exchangeEvent, hp]
  dsimp only
  rw [perform_of_envOk (envOk_of_reply henv), State.frameByteSent, dif_pos hk, frameByte_of_some hf,
    exchangeByte_eq_exchanged henv]

/-- The sixth frame byte (R101, R102, R121). -/
theorem step_of_last_frame_byte {s : State} {i : Instr} {f : Frame} {b : Byte} {rest : List EnvAct}
    (hv : s.params.valid = true) (hp : s.pos = .exch i (.frame 5)) (hf : s.f = some f)
    (henv : s.env = .reply b :: rest) :
    step s = .next { s.exchanged [Event.xchg s.busHandle (Frame.byte f 5) b] rest with
      firstCmdPending := false, tokenTries := some 0, pos := .exch i .token } := by
  rw [step_of_exch hv hp, exec_eq, exchangeEvent, hp]
  dsimp only
  rw [perform_of_envOk (envOk_of_reply henv), State.frameByteSent, dif_neg (by decide), frameByte_of_some hf,
    exchangeByte_eq_exchanged henv]

/-- A frame byte before the sixth, after the exchanges `es`. -/
theorem step_of_frame_after {s : State} {i : Instr} {f : Frame} {k l : Fin 6} {b : Byte} {es : List Event}
    {rest : List EnvAct} (hv : s.params.valid = true) (hf : s.f = some f) (hl : l.val = k.val + 1) :
    step ((s.exchanged es (EnvAct.reply b :: rest)).goTo (.exch i (.frame k))) =
      .next ((s.exchanged (es ++ [Event.xchg s.busHandle (Frame.byte f k) b]) rest).goTo (.exch i (.frame l))) := by
  rw [← exchanged_exchanged s es _ (EnvAct.reply b :: rest)]
  exact step_of_frame (s := (s.exchanged es (EnvAct.reply b :: rest)).goTo (.exch i (.frame k))) hv rfl hf hl rfl

/-- The exchanges of a frame's six bytes (R101). -/
def frameExchanges (s : State) (f : Frame) (bs : List Byte) : List Event :=
  List.zipWith (fun o b => Event.xchg s.busHandle o b) f.bytes bs

/-- The state in which the token search begins, after the exchanges `es` (R102, R121). -/
def State.frameSent (s : State) (i : Instr) (es : List Event) (rest : List EnvAct) : State :=
  { s.exchanged es rest with firstCmdPending := false, tokenTries := some 0, pos := .exch i .token }

/-- The sixth frame byte, after the exchanges `es`. -/
theorem step_of_last_frame_byte_after {s : State} {i : Instr} {f : Frame} {b : Byte} {es : List Event}
    {rest : List EnvAct} (hv : s.params.valid = true) (hf : s.f = some f) :
    step ((s.exchanged es (EnvAct.reply b :: rest)).goTo (.exch i (.frame 5))) =
      .next (s.frameSent i (es ++ [Event.xchg s.busHandle (Frame.byte f 5) b]) rest) := by
  rw [State.frameSent, ← exchanged_exchanged s es _ (EnvAct.reply b :: rest)]
  exact step_of_last_frame_byte (s := (s.exchanged es (EnvAct.reply b :: rest)).goTo (.exch i (.frame 5))) hv rfl hf rfl

/-- The six bytes of the frame buffer, one after the other. -/
theorem runSteps_frame {s : State} {i : Instr} {f : Frame} {bs : List Byte} {rest : List EnvAct}
    (hv : s.params.valid = true) (hp : s.pos = .exch i (.frame 0)) (hf : s.f = some f) (hlen : bs.length = 6)
    (henv : s.env = bs.map EnvAct.reply ++ rest) :
    runSteps 6 s = .next (s.frameSent i (frameExchanges s f bs) rest) := by
  match bs, hlen with
  | [b0, b1, b2, b3, b4, b5], _ =>
    have hstart :
        (s.exchanged [] ([b0, b1, b2, b3, b4, b5].map EnvAct.reply ++ rest)).goTo (.exch i (.frame 0)) = s := by
      rw [exchanged_nil henv, State.goTo, ← hp]
    have h := runSteps_cons (step_of_frame_after (i := i) (es := []) (k := 0) (l := 1) (b := b0)
        (rest := [b1, b2, b3, b4, b5].map EnvAct.reply ++ rest) hv hf rfl)
      (runSteps_cons (step_of_frame_after (l := 2) hv hf rfl) (runSteps_cons (step_of_frame_after (l := 3) hv hf rfl)
        (runSteps_cons (step_of_frame_after (l := 4) hv hf rfl) (runSteps_cons (step_of_frame_after (l := 5) hv hf rfl)
          (runSteps_cons (step_of_last_frame_byte_after hv hf) (runSteps_zero _))))))
    exact (congrArg (runSteps 6) hstart).symm.trans h

/-- Settles O23. -/
theorem frameIsSentInSixExchanges : Obligations.FrameIsSentInSixExchanges := by
  intro s i f bs rest hv hp hf hlen henv
  exact ⟨_, runSteps_frame hv hp hf hlen henv, rfl, rfl, rfl, rfl, rfl, rfl, rfl, rfl, rfl⟩

end Sys2Proof.Machine
end

section
/-! Reads under a script: the token search, the bytes after the token, the busy drain (R121 to R125). -/

namespace Sys2Proof.Machine

/-- The token search has read `n` bytes (R121). -/
def State.setTokenTries (s : State) (n : Nat) : State := { s with tokenTries := some n }

/-- The busy drain has read `n` bytes (R125). -/
def State.setBusyTries (s : State) (n : Nat) : State := { s with busyTries := some n }

/-- A byte whose bit 7 is set is no token (R75). -/
theorem isToken_eq_false {b : Byte} (h : b.getLsbD 7 = true) : isToken b = false := by
  rw [isToken, h]
  rfl

/-- A byte whose bit 7 is clear is a token (R75). -/
theorem isToken_eq_true {b : Byte} (h : b.getLsbD 7 = false) : isToken b = true :=
  beq_iff_eq.2 h

/-- A turn of the token search is one read, while the budget is not spent (R121). -/
theorem step_of_token {s : State} {i : Instr} {k : Nat} (hv : s.params.valid = true) (hp : s.pos = .exch i .token)
    (hk : s.tokenTries = some k) (hlt : k < s.params.tokenRetries) (he : s.envOk = true) :
    step s = .next (s.tokenRead i (instrShape s.shape i)) := by
  have hleft : s.tokenCount ≠ s.params.tokenRetries := by rw [tokenCount_of_some hk]; exact hlt.ne
  rw [step_of_exch hv hp, exec_eq, exchangeEvent, hp]
  dsimp only
  rw [if_neg hleft, perform_of_envOk he]

/-- A byte that is no token is discarded, and the search goes on (R121). -/
theorem step_of_no_token {s : State} {i : Instr} {k : Nat} {b : Byte} {env : List EnvAct}
    (hv : s.params.valid = true) (hp : s.pos = .exch i .token) (hk : s.tokenTries = some k)
    (hlt : k < s.params.tokenRetries) (henv : s.env = EnvAct.reply b :: env) (hb : b.getLsbD 7 = true) :
    step s = .next ((s.exchanged (fillReads s [b]) env).setTokenTries (k + 1)) := by
  have hrx : isToken s.rxByte ≠ true := by simp [rxByte_of_reply henv, isToken_eq_false hb]
  rw [step_of_token hv hp hk hlt (envOk_of_reply henv), State.tokenRead, if_neg hrx, tokenCount_of_some hk,
    fillByte_eq_exchanged henv, State.setTokenTries]
  simp [State.exchanged, hp]

/-- The state after the token: it is stored as `r[0]`, and the read goes on by its shape (R122 to R125). -/
def State.tokenStored (s : State) (i : Instr) (n : Nat) (tok : Byte) : State :=
  { s with
    tokenTries := some n
    r := s.r.put 0 tok
    busyTries := if instrShape s.shape i = .s1b then some 0 else s.busyTries
    pos := .exch i (afterToken (instrShape s.shape i)) }

/-- A token is stored (R122). -/
theorem step_of_token_found {s : State} {i : Instr} {k : Nat} {b : Byte} {env : List EnvAct}
    (hv : s.params.valid = true) (hp : s.pos = .exch i .token) (hk : s.tokenTries = some k)
    (hlt : k < s.params.tokenRetries) (henv : s.env = EnvAct.reply b :: env) (hb : b.getLsbD 7 = false) :
    step s = .next ((s.exchanged (fillReads s [b]) env).tokenStored i (k + 1) b) := by
  have hrx : isToken s.rxByte = true := by simp [rxByte_of_reply henv, isToken_eq_true hb]
  rw [step_of_token hv hp hk hlt (envOk_of_reply henv), State.tokenRead, if_pos hrx, tokenCount_of_some hk,
    fillByte_eq_exchanged henv, rxByte_of_reply henv]
  rfl

/-- The token search over bytes that are no tokens (R121). -/
theorem runSteps_token_search {s : State} {i : Instr} {pre : List Byte} {rest : List EnvAct}
    (hv : s.params.valid = true) (hp : s.pos = .exch i .token) (h0 : s.tokenTries = some 0)
    (hpre : ∀ b ∈ pre, b.getLsbD 7 = true) (hlen : pre.length ≤ s.params.tokenRetries)
    (henv : s.env = pre.map EnvAct.reply ++ rest) :
    runSteps pre.length s = .next ((s.exchanged (fillReads s pre) rest).setTokenTries pre.length) := by
  refine runSteps_fillLoop_start (mark := fun k u => u.setTokenTries k) (fun k b done env hk hb => ?_) hpre hlen henv
    (by rw [State.setTokenTries, ← h0])
  rw [fillReads_append, ← exchanged_exchanged s _ _ (EnvAct.reply b :: env)]
  exact step_of_no_token (s := (s.exchanged _ (EnvAct.reply b :: env)).setTokenTries _) hv hp rfl hk rfl hb

/-- A token within the budget, and what precedes it (R121, R122). -/
theorem runSteps_token {s : State} {i : Instr} {pre : List Byte} {tok : Byte} {rest : List EnvAct}
    (hv : s.params.valid = true) (hp : s.pos = .exch i .token) (h0 : s.tokenTries = some 0)
    (hpre : ∀ b ∈ pre, b.getLsbD 7 = true) (htok : tok.getLsbD 7 = false) (hlen : pre.length < s.params.tokenRetries)
    (henv : s.env = (pre ++ [tok]).map EnvAct.reply ++ rest) :
    runSteps (pre.length + 1) s =
      .next ((s.exchanged (fillReads s (pre ++ [tok])) rest).tokenStored i (pre.length + 1) tok) := by
  refine runSteps_trans (runSteps_token_search hv hp h0 hpre hlen.le
    (by simp [henv] : s.env = pre.map EnvAct.reply ++ (EnvAct.reply tok :: rest))) ?_
  refine runSteps_cons (step_of_token_found (s := (s.exchanged _ _).setTokenTries _) hv hp rfl hlen rfl htok) ?_
  rw [runSteps, fillReads_append, ← exchanged_exchanged s _ _ (EnvAct.reply tok :: rest)]
  rfl

/-- One byte after the token, stored whatever it is (R123, R124). -/
theorem step_of_extra {s : State} {i : Instr} {k : Fin 4} {b : Byte} {env : List EnvAct} (hv : s.params.valid = true)
    (hp : s.pos = .exch i (.extra k)) (henv : s.env = EnvAct.reply b :: env) :
    step s = .next { s.exchanged (fillReads s [b]) env with
      r := s.r.put k.succ b, pos := .exch i (afterExtra (instrShape s.shape i) k) } := by
  rw [step_of_exch hv hp, exec_eq, exchangeEvent, hp]
  dsimp only
  rw [perform_of_envOk (envOk_of_reply henv), State.extraRead, fillByte_eq_exchanged henv, rxByte_of_reply henv]

/-- The state of a read after the bytes `done` behind its token, with the buffer `r`, at the place `x`. -/
def State.extraAt (s : State) (i : Instr) (done : List Byte) (env : List EnvAct) (r : Response) (x : ExchangePos) :
    State :=
  { s.exchanged (fillReads s done) env with r := r, pos := .exch i x }

/-- The next byte of such a read. -/
theorem step_of_extraAt {s : State} {i : Instr} {sh : Shape} {done : List Byte} {b : Byte} {env : List EnvAct}
    {r : Response} (hv : s.params.valid = true) (hsh : instrShape s.shape i = sh) (k : Fin 4) :
    step (s.extraAt i done (EnvAct.reply b :: env) r (.extra k)) =
      .next (s.extraAt i (done ++ [b]) env (r.put k.succ b) (afterExtra sh k)) := by
  subst hsh
  rw [step_of_extra (s := s.extraAt i done (EnvAct.reply b :: env) r (.extra k)) hv rfl rfl]
  rw [State.extraAt, State.extraAt, fillReads_append, ← exchanged_exchanged s _ _ (EnvAct.reply b :: env)]
  rfl

/-- The bytes of a response, in order (R30). -/
def responseBytes (r : Response) : List (Option Byte) := [r.r0, r.r1, r.r2, r.r3, r.r4]

/-- The bytes after the token of a shape without busy drain: none, one or four (R122 to R124). -/
theorem runSteps_extras {s : State} {i : Instr} {sh : Shape} {ext : List Byte} {rest : List EnvAct}
    (hv : s.params.valid = true) (hsh : instrShape s.shape i = sh) (hne : sh ≠ .s1b)
    (hp : s.pos = .exch i (afterToken sh)) (hlen : ext.length + 1 = shapeLen sh)
    (henv : s.env = ext.map EnvAct.reply ++ rest) :
    ∃ r, runSteps ext.length s = .next (s.extraAt i ext rest r (.release .ok)) ∧
      responseBytes r = s.r.r0 :: ext.map some ++ (responseBytes s.r).drop (ext.length + 1) := by
  have hstart : s.extraAt i [] (ext.map EnvAct.reply ++ rest) s.r (afterToken sh) = s := by
    rw [State.extraAt, ← hp, ← henv]
    simp [State.exchanged, fillReads]
  have hstep := fun {done b env r} => step_of_extraAt (i := i) (done := done) (b := b) (env := env) (r := r) hv hsh
  cases sh with
  | s1b => exact absurd rfl hne
  | s1 =>
    obtain rfl := List.eq_nil_of_length_eq_zero (Nat.succ.inj hlen)
    exact ⟨s.r, (congrArg (runSteps 0) hstart).symm, rfl⟩
  | s2 =>
    obtain ⟨e, rfl⟩ := List.length_eq_one_iff.1 (Nat.succ.inj hlen)
    exact ⟨_, (congrArg (runSteps 1) hstart).symm.trans (runSteps_cons (hstep 0) (runSteps_zero _)), rfl⟩
  | s5 =>
    match ext, hlen with
    | [e0, e1, e2, e3], _ =>
      exact ⟨_, (congrArg (runSteps 4) hstart).symm.trans (runSteps_cons (hstep 0) (runSteps_cons (hstep 1)
        (runSteps_cons (hstep 2) (runSteps_cons (hstep 3) (runSteps_zero _))))), rfl⟩

/-- Settles O24: the token search up to its token, and then the shape's bytes. -/
theorem readStoresResponseBytes : Obligations.ReadStoresResponseBytes := by
  intro s i pre ext tok rest hv hp h0 hne hpre htok hlen hext henv
  have henv' : s.env = (pre ++ [tok]).map EnvAct.reply ++ (ext.map EnvAct.reply ++ rest) := by simp [henv]
  obtain ⟨r, hrun, hr⟩ := runSteps_extras (s := (s.exchanged _ _).tokenStored i (pre.length + 1) tok) hv rfl hne rfl
    hext rfl
  refine ⟨_, runSteps_trans (runSteps_token hv hp h0 hpre htok hlen henv') hrun, rfl, rfl, hr, ?_, rfl, rfl⟩
  simp [State.extraAt, State.tokenStored, State.exchanged, fillReads]

/-! The busy drain. -/

/-- A turn of the busy drain is one read, while the budget is not spent (R125). -/
theorem step_of_drain {s : State} {i : Instr} {k : Nat} {b : Byte} {env : List EnvAct} (hv : s.params.valid = true)
    (hp : s.pos = .exch i .drain) (hk : s.busyTries = some k) (hlt : k < s.params.busyRetries)
    (henv : s.env = EnvAct.reply b :: env) :
    step s = .next (((s.exchanged (fillReads s [b]) env).setBusyTries (k + 1)).goTo
      (.exch i (if endsDrain b then .dummy true else .drain))) := by
  have hcount : s.busyCount = k := by simp [State.busyCount, hk]
  have hleft : s.busyCount ≠ s.params.busyRetries := by rw [hcount]; exact hlt.ne
  rw [step_of_exch hv hp, exec_eq, exchangeEvent, hp]
  dsimp only
  rw [if_neg hleft, perform_of_envOk (envOk_of_reply henv), State.drainRead, fillByte_eq_exchanged henv,
    rxByte_of_reply henv, hcount]
  rfl

/-- A spent busy drain sends its dummy byte and times out (R125). -/
theorem step_of_drain_spent {s : State} {i : Instr} {b : Byte} {env : List EnvAct} (hv : s.params.valid = true)
    (hp : s.pos = .exch i .drain) (hk : s.busyTries = some s.params.busyRetries)
    (henv : s.env = EnvAct.reply b :: env) :
    step s = .next ((s.exchanged (fillReads s [b]) env).goTo (.exch i (.release .timeoutBusy))) := by
  have hspent : s.busyCount = s.params.busyRetries := by simp [State.busyCount, hk]
  rw [step_of_exch hv hp, exec_eq, exchangeEvent, hp]
  dsimp only
  rw [if_pos hspent, perform_of_envOk (envOk_of_reply henv), State.dummySent, fillByte_eq_exchanged henv]
  rfl

/-- The dummy byte of a cleared busy drain (R125). -/
theorem step_of_dummy_cleared {s : State} {i : Instr} {b : Byte} {env : List EnvAct} (hv : s.params.valid = true)
    (hp : s.pos = .exch i (.dummy true)) (henv : s.env = EnvAct.reply b :: env) :
    step s = .next ((s.exchanged (fillReads s [b]) env).goTo (.exch i (.release .ok))) := by
  rw [step_of_exch hv hp, exec_eq, exchangeEvent, hp]
  dsimp only
  rw [perform_of_envOk (envOk_of_reply henv), State.dummySent, fillByte_eq_exchanged henv]
  rfl

/-- The busy drain over zero bytes (R125). -/
theorem runSteps_drain {s : State} {i : Instr} {zeros : List Byte} {rest : List EnvAct} (hv : s.params.valid = true)
    (hp : s.pos = .exch i .drain) (h0 : s.busyTries = some 0) (hz : ∀ z ∈ zeros, z = 0)
    (hlen : zeros.length ≤ s.params.busyRetries) (henv : s.env = zeros.map EnvAct.reply ++ rest) :
    runSteps zeros.length s = .next ((s.exchanged (fillReads s zeros) rest).setBusyTries zeros.length) := by
  refine runSteps_fillLoop_start (mark := fun k u => u.setBusyTries k) (fun k b done env hk hb => ?_) hz hlen henv
    (by rw [State.setBusyTries, ← h0])
  subst hb
  rw [fillReads_append, ← exchanged_exchanged s _ _ (EnvAct.reply 0 :: env),
    step_of_drain (s := (s.exchanged _ (EnvAct.reply 0 :: env)).setBusyTries _) hv hp rfl hk rfl]
  simp [State.setBusyTries, State.exchanged, State.goTo, endsDrain, fillReads, hp]

/-- The busy drain that a non-zero byte within the budget ends, and its dummy byte (R125). -/
theorem runSteps_drain_cleared {s : State} {i : Instr} {zeros : List Byte} {b dummy : Byte} {rest : List EnvAct}
    (hv : s.params.valid = true) (hp : s.pos = .exch i .drain) (h0 : s.busyTries = some 0) (hz : ∀ z ∈ zeros, z = 0)
    (hlen : zeros.length < s.params.busyRetries) (hb : b ≠ 0)
    (henv : s.env = (zeros ++ [b, dummy]).map EnvAct.reply ++ rest) :
    runSteps (zeros.length + 2) s =
      .next (((s.exchanged (fillReads s (zeros ++ [b, dummy])) rest).setBusyTries (zeros.length + 1)).goTo
        (.exch i (.release .ok))) := by
  have hends : endsDrain b = true := bne_iff_ne.2 hb
  have hzeros := runSteps_drain hv hp h0 hz hlen.le
    (by simp [henv] : s.env = zeros.map EnvAct.reply ++ (EnvAct.reply b :: EnvAct.reply dummy :: rest))
  have hlast : step ((s.exchanged (fillReads s zeros) (EnvAct.reply b :: EnvAct.reply dummy :: rest)).setBusyTries
      zeros.length) = .next (((s.exchanged (fillReads s (zeros ++ [b])) (EnvAct.reply dummy :: rest)).setBusyTries
      (zeros.length + 1)).goTo (.exch i (.dummy true))) := by
    rw [step_of_drain (s := (s.exchanged _ _).setBusyTries _) (i := i) hv hp rfl hlen rfl, hends, if_pos rfl,
      fillReads_append, ← exchanged_exchanged s _ _ (EnvAct.reply b :: EnvAct.reply dummy :: rest)]
    rfl
  have hdummy : step (((s.exchanged (fillReads s (zeros ++ [b])) (EnvAct.reply dummy :: rest)).setBusyTries
      (zeros.length + 1)).goTo (.exch i (.dummy true))) = .next (((s.exchanged (fillReads s (zeros ++ [b, dummy]))
      rest).setBusyTries (zeros.length + 1)).goTo (.exch i (.release .ok))) := by
    rw [step_of_dummy_cleared (s := ((s.exchanged _ _).setBusyTries _).goTo _) (i := i) hv rfl rfl,
      List.append_cons zeros b [dummy], fillReads_append s (zeros ++ [b]),
      ← exchanged_exchanged s _ _ (EnvAct.reply dummy :: rest)]
    rfl
  exact runSteps_trans hzeros (runSteps_cons hlast (runSteps_cons hdummy (runSteps_zero _)))

/-- The busy drain that spends its budget on zero bytes, and its dummy byte (R125). -/
theorem runSteps_drain_timeout {s : State} {i : Instr} {zeros : List Byte} {dummy : Byte} {rest : List EnvAct}
    (hv : s.params.valid = true) (hp : s.pos = .exch i .drain) (h0 : s.busyTries = some 0) (hz : ∀ z ∈ zeros, z = 0)
    (hlen : zeros.length = s.params.busyRetries) (henv : s.env = (zeros ++ [dummy]).map EnvAct.reply ++ rest) :
    runSteps (zeros.length + 1) s =
      .next (((s.exchanged (fillReads s (zeros ++ [dummy])) rest).setBusyTries zeros.length).goTo
        (.exch i (.release .timeoutBusy))) := by
  refine runSteps_trans (runSteps_drain hv hp h0 hz hlen.le
    (by simp [henv] : s.env = zeros.map EnvAct.reply ++ (EnvAct.reply dummy :: rest))) ?_
  refine runSteps_cons (step_of_drain_spent (s := (s.exchanged _ _).setBusyTries _) hv hp (congrArg some hlen) rfl) ?_
  simp [runSteps, State.setBusyTries, State.exchanged, State.goTo, fillReads, Nat.add_assoc]

/-- Settles O26: the two ends of the busy drain. -/
theorem busyDrainEndsOrTimesOut : Obligations.BusyDrainEndsOrTimesOut := by
  refine fun s idx arg zeros b dummy rest hv hp h0 hz => ⟨fun hlen hb henv => ?_, fun hlen henv => ?_⟩
  · exact ⟨_, runSteps_drain_cleared hv hp h0 hz hlen hb henv, rfl, rfl, rfl, rfl, rfl⟩
  · exact ⟨_, runSteps_drain_timeout hv hp h0 hz hlen henv, rfl, rfl, rfl, rfl, rfl⟩

/-- After the token the shape S1B leads to its busy drain, with `busy_tries` at zero (R125). -/
theorem tokenStored_of_s1b {s : State} {i : Instr} {n : Nat} {tok : Byte} (h : instrShape s.shape i = .s1b) :
    (s.tokenStored i n tok).pos = .exch i .drain ∧ (s.tokenStored i n tok).busyTries = some 0 := by
  simp [State.tokenStored, h, afterToken]

/-- Settles O54: the token search up to its token, and then each end of the busy drain. -/
theorem busyReadFromItsToken : Obligations.BusyReadFromItsToken := by
  intro s idx arg pre zeros tok b dummy rest hv hp h0 hsh hpre htok hlen hz
  have hshape : instrShape s.shape (.cmd idx arg) = .s1b := hsh
  have htoken : ∀ env, s.env = (pre ++ [tok]).map EnvAct.reply ++ env → runSteps (pre.length + 1) s =
      .next ((s.exchanged (fillReads s (pre ++ [tok])) env).tokenStored (.cmd idx arg) (pre.length + 1) tok) :=
    fun env => runSteps_token hv hp h0 hpre htok hlen
  refine ⟨fun henv => ?_, fun hlen' hb henv => ?_, fun hlen' henv => ?_⟩
  · obtain ⟨hpos, hbusy⟩ := tokenStored_of_s1b (s := s.exchanged (fillReads s (pre ++ [tok])) rest)
      (n := pre.length + 1) (tok := tok) hshape
    exact ⟨_, htoken _ henv, hpos, hbusy, rfl, rfl, rfl, rfl, rfl⟩
  · obtain ⟨hpos, hbusy⟩ := tokenStored_of_s1b (n := pre.length + 1) (tok := tok)
      (s := s.exchanged (fillReads s (pre ++ [tok])) ((zeros ++ [b, dummy]).map EnvAct.reply ++ rest)) hshape
    have hcleared := runSteps_drain_cleared (rest := rest) (dummy := dummy) (by exact hv) hpos hbusy hz hlen' hb rfl
    rw [Nat.add_assoc (pre.length + 1)]
    refine ⟨_, runSteps_trans (htoken _ (by simp [henv])) hcleared, rfl, rfl, ?_, ?_, ?_, rfl⟩
    all_goals simp [State.goTo, State.setBusyTries, State.tokenStored, State.exchanged, fillReads, Response.put]
  · obtain ⟨hpos, hbusy⟩ := tokenStored_of_s1b (n := pre.length + 1) (tok := tok)
      (s := s.exchanged (fillReads s (pre ++ [tok])) ((zeros ++ [dummy]).map EnvAct.reply ++ rest)) hshape
    have htimeout := runSteps_drain_timeout (rest := rest) (dummy := dummy) (by exact hv) hpos hbusy hz hlen' rfl
    rw [Nat.add_assoc (pre.length + 1)]
    refine ⟨_, runSteps_trans (htoken _ (by simp [henv])) htimeout, rfl, rfl, ?_, ?_, ?_, rfl⟩
    all_goals simp [State.goTo, State.setBusyTries, State.tokenStored, State.exchanged, fillReads, Response.put]

end Sys2Proof.Machine
end

section
/-! A read without a token (R121, R127), and the run it ends (P3). -/

namespace Sys2Proof.Machine

/-- The state after the release of a read that found no token in the bytes `pre` (R121, R127). -/
def State.tokenTimedOut (s : State) (pre : List Byte) (rest : List EnvAct) : State :=
  { s with
    trace := s.trace ++ fillReads s pre ++ [Event.cs s.chipSelect .high]
    csLevel := .high
    env := rest
    rxCount := s.rxCount + pre.length
    tokenTries := some pre.length
    result := some .timeoutToken }

/-- A spent token search releases chip-select, under a script of received bytes (R121, R127). -/
theorem step_of_token_spent {s : State} {i : Instr} (hv : s.params.valid = true) (hp : s.pos = .exch i .token)
    (hspent : s.tokenTries = some s.params.tokenRetries) (he : s.env.all isReply = true) :
    step s = .next (closeOf i .timeoutToken { s with
      trace := s.trace ++ [Event.cs s.chipSelect .high]
      csLevel := .high
      result := some .timeoutToken }) := by
  obtain ⟨hok, hret⟩ := replies_return he
  rw [step_of_exch hv hp, exec_of_spent_token hp (tokenCount_of_some hspent), perform_of_envOk hok,
    State.closeExchange, State.driveCs, hret]

/-- A budget of bytes that are no tokens, and the release (R121, R127). -/
theorem runSteps_token_timeout {s : State} {i : Instr} {pre : List Byte} {rest : List EnvAct}
    (hv : s.params.valid = true) (hp : s.pos = .exch i .token) (h0 : s.tokenTries = some 0)
    (hpre : ∀ b ∈ pre, b.getLsbD 7 = true) (hlen : pre.length = s.params.tokenRetries)
    (henv : s.env = pre.map EnvAct.reply ++ rest) (hrest : rest.all isReply = true) :
    runSteps (s.params.tokenRetries + 1) s = .next (closeOf i .timeoutToken (s.tokenTimedOut pre rest)) := by
  have hrelease := step_of_token_spent (s := (s.exchanged (fillReads s pre) rest).setTokenTries pre.length) (i := i) hv
    hp (congrArg some hlen) hrest
  rw [← hlen, runSteps_trans (runSteps_token_search hv hp h0 hpre hlen.le henv)
    (runSteps_cons hrelease (runSteps_zero _))]
  simp [State.tokenTimedOut, State.setTokenTries, State.exchanged]

/-- Settles O25: the release decides by the command's own cause, or not at all for a generic frame. -/
theorem tokenTimeoutAfterBudget : Obligations.TokenTimeoutAfterBudget := by
  intro s i pre rest hv hp h0 hpre hlen henv hrest
  refine ⟨_, runSteps_token_timeout hv hp h0 hpre hlen henv hrest, ?_⟩
  obtain ⟨_, _, _, _, _, _, _, hclose⟩ := closeOf_eq i .timeoutToken (s.tokenTimedOut pre rest)
  refine ⟨?_, ?_, ?_, ?_, ?_, fun c hc => ?_, fun hnone => ?_⟩
  any_goals rw [hclose]; rfl
  · rw [closeOf_timeoutToken hc]
    exact ⟨rfl, rfl⟩
  · cases i with
    | cmd idx arg => exact ⟨rfl, rfl⟩
    | _ => cases hnone

/-! The run without a card. -/

/-- The events of a reset command that no card answers (R101, R121, R127). -/
def unansweredResetEvents (s : State) (six pre : List Byte) : List Event :=
  [Event.cs s.chipSelect .low] ++
    frameExchanges s (frame s.params.dummyCrc s.params.idxReset 0 s.firstCmdPending) six ++ fillReads s pre ++
    [Event.cs s.chipSelect .high]

theorem unansweredResetEvents_length {s : State} {six pre : List Byte} (h : six.length = 6) :
    (unansweredResetEvents s six pre).length = pre.length + 8 := by
  simp [unansweredResetEvents, frameExchanges, Frame.bytes, h]
  omega

/-- The state after a reset command that no card answers: its exchange is closed and the run raises (R156, R168). -/
def State.resetUnanswered (s : State) (six pre : List Byte) (rest : List EnvAct) : State :=
  { s with
    trace := s.trace ++ unansweredResetEvents s six pre
    csLevel := .high
    env := rest
    rxCount := s.rxCount + (6 + pre.length)
    f := some (frame s.params.dummyCrc s.params.idxReset 0 s.firstCmdPending)
    firstCmdPending := false
    tokenTries := some pre.length
    result := some .timeoutToken
    phase := .faulted
    pos := .faultRelease .tTokenReset }

/-- The state after the reset command's opening (R127, R156). -/
def State.resetOpened (s : State) : State :=
  { s with
    trace := s.trace ++ [Event.cs s.chipSelect .low]
    csLevel := .low
    f := some (frame s.params.dummyCrc s.params.idxReset 0 s.firstCmdPending)
    pos := .exch .cmdReset (.frame 0) }

/-- The reset command's opening, under a script of received bytes (R127, R156). -/
theorem step_of_reset {s : State} (hv : s.params.valid = true) (hp : s.pos = .command .reset)
    (he : s.env.all isReply = true) : step s = .next s.resetOpened := by
  obtain ⟨hok, hret⟩ := replies_return he
  rw [step_of_issue_run hv hp rfl, exec_of_outside (by simp [hp]), perform_of_envOk hok, State.openExchange,
    State.driveCs, hret]
  rfl

/-- The reset command without a card: its opening, its frame, and a read that finds no token (R156). -/
theorem runSteps_reset_unanswered {s : State} {six pre : List Byte} {rest : List EnvAct} (hv : s.params.valid = true)
    (hp : s.pos = .command .reset) (hsix : six.length = 6) (hpre : ∀ b ∈ pre, b.getLsbD 7 = true)
    (hlen : pre.length = s.params.tokenRetries) (henv : s.env = six.map EnvAct.reply ++ (pre.map EnvAct.reply ++ rest))
    (hrest : rest.all isReply = true) :
    runSteps (6 + (s.params.tokenRetries + 1) + 1) s = .next (s.resetUnanswered six pre rest) := by
  have hall : s.env.all isReply = true := henv ▸ all_isReply_append (all_isReply_append hrest)
  have hframe := runSteps_frame (s := s.resetOpened) (i := .cmdReset) hv rfl rfl hsix henv
  have htimeout := fun es => runSteps_token_timeout (i := .cmdReset)
    (s := s.resetOpened.frameSent .cmdReset es (pre.map EnvAct.reply ++ rest)) hv rfl rfl hpre hlen rfl hrest
  refine (runSteps_cons (step_of_reset hv hp hall) (runSteps_trans hframe (htimeout _))).trans ?_
  rw [closeOf_timeoutToken (i := .cmdReset) rfl]
  simp [State.resetUnanswered, State.tokenTimedOut, State.frameSent, State.exchanged, State.raise, State.resetOpened,
    unansweredResetEvents, fillReads, frameExchanges, Frame.bytes, hsix, Nat.add_assoc]

/-- A list is cut after its first `j` entries. -/
theorem exists_append_of_le_length {j : Nat} (xs : List Byte) (h : j ≤ xs.length) :
    ∃ ys zs, xs = ys ++ zs ∧ ys.length = j :=
  ⟨xs.take j, xs.drop j, (List.take_append_drop j xs).symm, List.length_take_of_le h⟩

/-- The bytes of a run without a card: the two idle batches, the six of a frame, the read's, and the dummy byte. -/
theorem exists_run_bytes {bs : List Byte} {m n k : Nat} (h : bs.length = m + n + 6 + k + 1) :
    ∃ (hi lo six pre : List Byte) (d : Byte), bs = hi ++ lo ++ six ++ pre ++ [d] ∧
      hi.length = m ∧ lo.length = n ∧ six.length = 6 ∧ pre.length = k := by
  obtain ⟨hi, xs, rfl, hhi⟩ := exists_append_of_le_length bs (by omega : m ≤ _)
  rw [List.length_append] at h
  obtain ⟨lo, ys, rfl, hlo⟩ := exists_append_of_le_length xs (by omega : n ≤ _)
  rw [List.length_append] at h
  obtain ⟨six, zs, rfl, hsix⟩ := exists_append_of_le_length ys (by omega : 6 ≤ _)
  rw [List.length_append] at h
  obtain ⟨pre, ds, rfl, hpre⟩ := exists_append_of_le_length zs (by omega : k ≤ _)
  rw [List.length_append] at h
  obtain ⟨d, rfl⟩ := List.length_eq_one_iff.1 (by omega : ds.length = 1)
  exact ⟨hi, lo, six, pre, d, by simp, hhi, hlo, hsix, hpre⟩

theorem powerUpEvents_length (s : State) (hi lo : List Byte) :
    (powerUpEvents s hi lo).length = 5 + hi.length + lo.length := by
  simp [powerUpEvents]
  omega

/-- Settles O52: the start operation, the power-up, the unanswered reset command and the Faulted procedure in a row. -/
theorem absentCardTimesOut : Obligations.AbsentCardTimesOut := by
  intro s ops bs rest hv hp hph hfirst hhost hbs hlen henv hrest
  obtain ⟨hi, lo, six, pre, d, rfl, hhi, hlo, hsix, hpre⟩ := exists_run_bytes hlen
  have hd : (EnvAct.reply d :: rest).all isReply = true := hrest
  have hstart : step s = .next (s.startRun ops) := by rw [step_of_callInit hv hp hhost, startStep, hph]
  have hsetup := runSteps_powerUp (s := s.startRun ops) (hi := hi) (lo := lo)
    (rest := six.map EnvAct.reply ++ (pre.map EnvAct.reply ++ EnvAct.reply d :: rest)) hv rfl hhi hlo
    (by simp [State.startRun, henv]) (all_isReply_append (all_isReply_append hd))
  have hreset := fun es n => runSteps_reset_unanswered (s := (s.startRun ops).setupTo es .high
    (.rate s.params.handshakeClock) (six.map EnvAct.reply ++ (pre.map EnvAct.reply ++ EnvAct.reply d :: rest)) n
    (.command .reset)) hv rfl hsix (fun b hb => hbs b (by simp [hb])) hpre rfl hd
  have hfault := fun es n => faultProcedureRuns (((s.startRun ops).setupTo es .high (.rate s.params.handshakeClock)
    (six.map EnvAct.reply ++ (pre.map EnvAct.reply ++ EnvAct.reply d :: rest)) n (.command .reset)).resetUnanswered six
    pre (EnvAct.reply d :: rest)) .tTokenReset d rest hv rfl rfl rfl
  rw [show s.params.nIdleHigh + s.params.nIdleLow + s.params.tokenRetries + 17 =
    5 + s.params.nIdleHigh + s.params.nIdleLow + (6 + (s.params.tokenRetries + 1) + 1 + 3) + 1 by omega]
  refine ⟨_, runSteps_cons hstart (runSteps_trans hsetup (runSteps_trans (hreset _ _) (hfault _ _))), rfl, rfl, rfl,
    rfl, rfl, rfl, rfl, rfl, rfl, rfl, ?_, ?_⟩
  · simp [State.resetUnanswered, State.setupTo, State.startRun, powerUpEvents_length,
      unansweredResetEvents_length hsix, hhi, hlo, hpre]
    omega
  · simp [State.resetUnanswered, State.setupTo, State.startRun, hfirst]

end Sys2Proof.Machine
end
